-- ==== Sys2Proof/Word.lean ====
section
/-! DEFINITION. The byte and the 16-bit word of the SC-440's messages (spec/12_message_and_record_layouts.md). -/

namespace Sys2Proof

/-- One byte of a message or of a lane's byte slot (R129, R51). -/
abbrev Byte := BitVec 8

/-- A 16-bit number that wraps: the cycle number (R14), the report sequence (R139), a register address (R19). -/
abbrev Word16 := BitVec 16

end Sys2Proof
end

