-- ==== Sys2Proof/Syntax.lean ====
section
/-! DEFINITION. The commands and events of the SC-440: one constructor for each row of spec/opcode_table.json. -/

namespace Sys2Proof

/-- What the bus brought when a transaction completed (R50, R51): every byte sent was acknowledged, with the data
bytes read from the target (none for a WRITE or a PROBE); or the byte written at `index`, counted from 0 over the
register bytes and then the data bytes, was not acknowledged. The address bytes are not counted: an address byte
that is not acknowledged is the row ATTEMPT_ADDR_NACK. -/
inductive BusResult where
  | completed (data : List Byte)
  | notAcknowledged (index : Nat)
  deriving DecidableEq, Repr

/-- How a recovery procedure ended (R57): both lines high and STOP issued, or SDA still low after the twelfth
pulse. SCL held low for 25 ms is the row RECOVERY_SCL_TIMEOUT. -/
inductive RecoveryResult where
  | busFree
  | sdaHeld
  deriving DecidableEq, Repr

/-- A character on HRX (R129): the levels of its 8 data bits in the order received, true for high, and the level found
at its stop bit; `early` says that its start bit began before the receiver came on (R141). -/
structure Character where
  data : Vector Bool 8
  stop : Bool
  early : Bool
  deriving DecidableEq, Repr

/-- The rows of spec/opcode_table.json. A host command carries the TAG and the BODY of the good frame that the
receiver hands over (R130, R142). The rows whose action byte or Enabled byte is fixed by the row carry the BODY
byte before it and the BODY bytes `rest` after it (none for a body of the right length, or the four settings of
SET_ALERT). -/
inductive Instr where
  | ping (tag : Byte) (body : List Byte)
  | getStatus (tag : Byte) (body : List Byte)
  | clearCounters (tag : Byte) (body : List Byte)
  | reset (tag : Byte) (body : List Byte)
  | start (tag : Byte) (body : List Byte)
  | stop (tag : Byte) (body : List Byte)
  | setCycle (tag : Byte) (body : List Byte)
  | definePoll (tag : Byte) (body : List Byte)
  | deletePoll (tag : Byte) (body : List Byte)
  | setPollStatePause (tag poll : Byte) (rest : List Byte)
  | setPollStateResume (tag poll : Byte) (rest : List Byte)
  | readPoll (tag : Byte) (body : List Byte)
  | setLane (tag : Byte) (body : List Byte)
  | readLane (tag : Byte) (body : List Byte)
  | laneReset (tag : Byte) (body : List Byte)
  | bindTarget (tag : Byte) (body : List Byte)
  | unbindTarget (tag : Byte) (body : List Byte)
  | readTarget (tag : Byte) (body : List Byte)
  | setTargetStateRevive (tag target : Byte) (rest : List Byte)
  | setTargetStateQuarantine (tag target : Byte) (rest : List Byte)
  | submit (tag : Byte) (body : List Byte)
  | cancel (tag : Byte) (body : List Byte)
  | flushLane (tag : Byte) (body : List Byte)
  | setAlertEnable (tag line : Byte) (rest : List Byte)
  | setAlertDisable (tag line : Byte) (rest : List Byte)
  | readAlert (tag : Byte) (body : List Byte)
  | grant (tag : Byte) (body : List Byte)
  | powerOn
  | resetInput
  | resetRelease (rate1 rate0 : Bool)
  | initEnd
  | receiveByte (c : Character)
  | gapTimeout
  | transmitEnd
  | cycleStart
  | lookForWork (lane : Fin 4)
  | attemptAddrNack (lane : Fin 4)
  | stretchTimeout (lane : Fin 4)
  | busStuck (lane : Fin 4)
  | arbLost (lane : Fin 4)
  | transactionEnd (lane : Fin 4) (result : BusResult)
  | recoveryEnd (lane : Fin 4) (result : RecoveryResult)
  | recoverySclTimeout (lane : Fin 4)
  | drainRemoval (lane : Fin 4)
  | alertInputChange (line : Fin 8) (high : Bool)
  | alertFilterExpiry (line : Fin 8)
  | alertEvaluation
  | supplyBelowOperatingLevel
  deriving DecidableEq, Repr

end Sys2Proof
end

