-- ==== Sys2Proof/WellFormed.lean ====
section
/-! DEFINITION. Which commands and events are well formed: a BODY fits a frame (12.1, R130), and a bus result fits
the longest transaction (R41). Every other operand is in range by its type. -/

namespace Sys2Proof

/-- A BODY of 0 to 248 bytes, the most that a LENGTH of 250 carries (R130). -/
def bodyFits (body : List Byte) : Bool := decide (body.length ≤ 248)

/-- A result that some transaction can have: at most 32 bytes read, at most 34 register and data bytes written. -/
def BusResult.fits : BusResult → Bool
  | .completed data => decide (data.length ≤ 32)
  | .notAcknowledged index => decide (index < 34)

/-- The BODY of a host command, none for an event. -/
def Instr.body : Instr → Option (List Byte)
  | .ping _ b | .getStatus _ b | .clearCounters _ b | .reset _ b | .start _ b | .stop _ b | .setCycle _ b
  | .definePoll _ b | .deletePoll _ b | .readPoll _ b | .setLane _ b | .readLane _ b | .laneReset _ b
  | .bindTarget _ b | .unbindTarget _ b | .readTarget _ b | .submit _ b | .cancel _ b | .flushLane _ b
  | .readAlert _ b | .grant _ b => some b
  | .setPollStatePause _ p r => some (p :: 0 :: r)
  | .setPollStateResume _ p r => some (p :: 1 :: r)
  | .setTargetStateRevive _ t r => some (t :: 0 :: r)
  | .setTargetStateQuarantine _ t r => some (t :: 1 :: r)
  | .setAlertEnable _ l r => some (l :: 1 :: r)
  | .setAlertDisable _ l r => some (l :: 0 :: r)
  | .powerOn | .resetInput | .resetRelease _ _ | .initEnd | .receiveByte _ | .gapTimeout | .transmitEnd
  | .cycleStart | .lookForWork _ | .attemptAddrNack _ | .stretchTimeout _ | .busStuck _ | .arbLost _
  | .transactionEnd _ _ | .recoveryEnd _ _ | .recoverySclTimeout _ | .drainRemoval _ | .alertInputChange _ _
  | .alertFilterExpiry _ | .alertEvaluation | .supplyBelowOperatingLevel => none

/-- A host command's BODY fits a frame, and a bus result fits a transaction. -/
def Instr.wellFormed (i : Instr) : Bool :=
  (match i.body with | some b => bodyFits b | none => true) &&
  (match i with | .transactionEnd _ r => r.fits | _ => true)

end Sys2Proof
end

