-- ==== Sys2Proof/Decode.lean ====
section
/-! DEFINITION. The command that a word of spec/opcode_table.json spells. No row of that table gives bits, so no word
spells one (notes/assumptions/28.md); the KIND codes of the host's frames are decoded by the receiver
(Sys2Proof/Machine/HostPort.lean). -/

namespace Sys2Proof

/-- The command that `nbits` bits `w` spell by the table's bits: none, since no row gives bits. -/
def decodeTableWord (_nbits _w : Nat) : Option Instr := none

end Sys2Proof
end

