-- ==== Sys2Proof/Config.lean ====
section
/-! DEFINITION. The capacities fixed in the part (spec/00_scope.md 0.8) and the free choices that the spec leaves open. -/

namespace Sys2Proof

/-- Jobs per lane queue (R65). -/
def Config.jobsPerLane : Nat := 8

/-- Data blocks of the Buffer Pool (R106). -/
def Config.poolBlocks : Nat := 64

/-- Record slots of the Result Queue, reservations included (R109). -/
def Config.recordSlots : Nat := 48

/-- Places of the Notice Queue (R122). -/
def Config.noticePlaces : Nat := 16

/-- Commands in flight (R133). -/
def Config.inFlightTags : Nat := 8

/-- Entries of the refusal list (R134). -/
def Config.refusalPlaces : Nat := 4

/-- Largest report credit (R138). -/
def Config.creditLimit : Nat := 4095

/-- FREE VALUE (notes/assumptions/8.md, 9.md, 21.md): the n-th choice that the spec leaves to the part or to its
surroundings, as a list of numbers. No body: nothing can be proved of its values. -/
opaque Config.choice : Nat → List Nat

end Sys2Proof
end

