-- ==== Sys2Proof/Machine/Table.lean ====
section
/-! DEFINITION. A table of a fixed number of entries: plain data with its length proved once. -/

namespace Sys2Proof.Machine

/-- `n` entries numbered 0 to `n - 1` (the Target Table, the poll entries, the lanes, the alert lines). -/
structure Table (α : Type) (n : Nat) where
  toList : List α
  length_eq : toList.length = n
  deriving DecidableEq, Repr

/-- The entry numbered `i`. -/
def Table.get {α : Type} {n : Nat} (t : Table α n) (i : Fin n) : α :=
  t.toList[i.val]'(by rw [t.length_eq]; exact i.isLt)

/-- The table with entry `i` replaced. -/
def Table.set {α : Type} {n : Nat} (t : Table α n) (i : Fin n) (a : α) : Table α n :=
  ⟨t.toList.set i.val a, by rw [List.length_set, t.length_eq]⟩

/-- Every entry changed by `f`. -/
def Table.map {α : Type} {n : Nat} (f : α → α) (t : Table α n) : Table α n :=
  ⟨t.toList.map f, by rw [List.length_map, t.length_eq]⟩

/-- The table whose entry `i` is `f i`. -/
def Table.ofFn {α : Type} {n : Nat} (f : Fin n → α) : Table α n :=
  ⟨List.ofFn f, List.length_ofFn⟩

/-- The table whose entries are all `a`. -/
def Table.replicate {α : Type} (n : Nat) (a : α) : Table α n :=
  ⟨List.replicate n a, List.length_replicate⟩

end Sys2Proof.Machine
end

