-- ==== Sys2Proof/Machine/State.lean ====
section
/-! DEFINITION. Everything the spec gives the SC-440, as plain data, and its value right after a reset. -/

namespace Sys2Proof.Machine

/-! ### Enumerations -/

/-- The operating states (R151). -/
inductive OpState where
  | init | standby | running | draining
  deriving DecidableEq, Repr

/-- What caused the last reset (R153). -/
inductive ResetCause where
  | powerOn | resetPin | resetCommand
  deriving DecidableEq, Repr

/-- The Host Port rates the straps select (R129). -/
inductive BitRate where
  | r115200 | r460800 | r921600 | r3000000
  deriving DecidableEq, Repr

/-- State of a target entry (R1, R94). -/
inductive TargetState where
  | free | online | suspect | quarantined
  deriving DecidableEq, Repr

/-- State of a poll entry (R19). -/
inductive PollState where
  | free | active | paused
  deriving DecidableEq, Repr

/-- Report Mode of a poll (R19). -/
inductive ReportMode where
  | every | change | delta
  deriving DecidableEq, Repr

/-- Value Order of a DELTA poll (R19, R114). -/
inductive ValueOrder where
  | big | little
  deriving DecidableEq, Repr

/-- Why a poll was missed (R33). -/
inductive MissReason where
  | shed | late | quarantined | laneDown
  deriving DecidableEq, Repr

/-- State of a lane (R37). -/
inductive LaneState where
  | off | idle | busy | recovering | faulted
  deriving DecidableEq, Repr

/-- Speed of a lane, in kbit/s (R36). -/
inductive Speed where
  | s100 | s400 | s1000
  deriving DecidableEq, Repr

/-- Result space a lane holds (R46, R109). -/
inductive Reservation where
  | none | slot | slotAndBlock
  deriving DecidableEq, Repr

/-- Last Fault Cause of a lane (R36). -/
inductive FaultCause where
  | none | sclHeld | sdaHeld
  deriving DecidableEq, Repr

/-- Cause carried by a LANE_STATE notice (R59, R123). -/
inductive LaneCause where
  | faultSclHeld | faultSdaHeld | recovered | reset
  deriving DecidableEq, Repr

/-- The three kinds of bus transaction: Operation of a transaction, Kind of a job (R47, R65). -/
inductive Operation where
  | read | write | probe
  deriving DecidableEq, Repr

/-- Final outcomes of transactions and statuses of records (R55, R111). -/
inductive RecordStatus where
  | ok | addrNack | dataNack | stretchTimeout | arbLost | busStuck | aborted | cancelled | quarantined
  deriving DecidableEq, Repr

/-- State of an alert line (R81). -/
inductive LineState where
  | off | armed | pending | running | holdoff
  deriving DecidableEq, Repr

/-- The input level of an alert line that counts as active (R79). -/
inductive Polarity where
  | low | high
  deriving DecidableEq, Repr

/-- How activity of an alert line becomes a read (R79). -/
inductive AlertMode where
  | edge | level
  deriving DecidableEq, Repr

/-- The 19 reply statuses (R145). -/
inductive ReplyStatus where
  | ok | full | tagInUse | badTag | badKind | badLength | badValue | wrongState | noEntry | inUse | conflict
  | busy | queueFull | noSpace | tooLong | laneDown | quarantined | running | notFound
  deriving DecidableEq, Repr

/-- The classes of CLEAR_COUNTERS (R149). -/
inductive CounterClass where
  | all | target | poll | lane | alert | result | host
  deriving DecidableEq, Repr

/-- States of the receiver (R130). -/
inductive ReceiverState where
  | hunt | length | body | check
  deriving DecidableEq, Repr

/-! ### Target Table -/

/-- The five counters of a target entry (R8, R9). -/
structure TargetCounts where
  completionsOk : Nat
  addrNacks : Nat
  dataNacks : Nat
  stretchTimeouts : Nat
  quarantineEntries : Nat
  deriving DecidableEq, Repr

/-- The five counters cleared (R10). -/
def TargetCounts.zero : TargetCounts := ⟨0, 0, 0, 0, 0⟩

/-- A target entry (R1). -/
structure Target where
  state : TargetState
  lane : Fin 4
  busAddress : BitVec 7
  /-- Register Width `w` -/
  width : Fin 3
  retryLimit : Fin 4
  /-- Quarantine Threshold `Q` -/
  threshold : Fin 16
  /-- Probe Exponent `k` -/
  probeExponent : Fin 8
  /-- Failure Count `F` -/
  failures : Nat
  countdown : Nat
  counts : TargetCounts
  deriving DecidableEq, Repr

/-- A FREE entry: every other field zero (R1). -/
def Target.free : Target := ⟨.free, 0, 0, 0, 0, 0, 0, 0, 0, .zero⟩

/-! ### Poll entries -/

/-- The definition fields of a poll entry (R19). -/
structure PollDef where
  target : Fin 32
  register : Word16
  byteCount : Nat
  periodExponent : Fin 8
  phase : Nat
  mode : ReportMode
  threshold : Nat
  order : ValueOrder
  keepLatest : Bool
  deriving DecidableEq, Repr

/-- The definition fields of a FREE entry (R19). -/
def PollDef.free : PollDef := ⟨0, 0, 0, 0, 0, .every, 0, .big, false⟩

/-- The snapshot of the last reported outcome (R21). -/
structure Snapshot where
  valid : Bool
  lastStatus : RecordStatus
  lastData : List Byte
  deriving DecidableEq, Repr

/-- A snapshot that is not valid, its `n` bytes of Last Data 0 (R21). -/
def Snapshot.invalid (n : Nat) : Snapshot := ⟨false, .ok, List.replicate n 0⟩

/-- Misses counted by reason (R33): of a poll entry, or summed in a LANE_LOAD notice (R124). -/
structure Misses where
  shed : Nat
  late : Nat
  quarantined : Nat
  laneDown : Nat
  deriving DecidableEq, Repr

/-- No misses. -/
def Misses.zero : Misses := ⟨0, 0, 0, 0⟩

/-- The seven counters of a poll entry (R22). -/
structure PollCounts where
  completions : Nat
  records : Nat
  superseded : Nat
  misses : Misses
  deriving DecidableEq, Repr

/-- The seven counters cleared (R22). -/
def PollCounts.zero : PollCounts := ⟨0, 0, 0, .zero⟩

/-- A poll entry (R19 to R22) with its Waiting Record link (R117), the link being the place of the linked record in
the Result Queue, 0 at the head. -/
structure Poll where
  state : PollState
  generation : Byte
  defn : PollDef
  snapshot : Snapshot
  counts : PollCounts
  link : Option Nat
  deriving DecidableEq, Repr

/-- A FREE entry that keeps the Generation `g` (R19, R20). -/
def Poll.free (g : Byte) : Poll := ⟨.free, g, .free, .invalid 0, .zero, none⟩

/-! ### Jobs and transactions -/

/-- A job (R65). `data` is its Data Block with the bytes to write, present only for a WRITE of one byte or more. -/
structure Job where
  number : Nat
  tag : Byte
  target : Fin 32
  kind : Operation
  register : Word16
  byteCount : Nat
  data : Option (List Byte)
  cancelling : Bool
  deriving DecidableEq, Repr

/-- Kind and Source of a transaction (R47): a poll entry, an alert line, a job (held here until its end, R65), or a
revival probe. -/
inductive Work where
  | poll (p : Fin 48)
  | alert (l : Fin 8)
  | job (j : Job)
  | probe
  deriving DecidableEq, Repr

/-- One bus segment of an attempt (R50): the address byte with its read or write bit, the bytes written after it,
and the number of bytes read after it. -/
structure Segment where
  address : Byte
  written : List Byte
  reads : Nat
  deriving DecidableEq, Repr

/-- The Current Transaction of a lane (R47). `segments` is what the attempt in progress sends on the bus (R50);
`definitionGone` says that the poll entry of an alert read was deleted or redefined since the read started (R85). -/
structure Transaction where
  work : Work
  generation : Byte
  target : Fin 32
  op : Operation
  register : Word16
  byteCount : Nat
  attempt : Nat
  cost : Nat
  charged : Nat
  discarded : Bool
  definitionGone : Bool
  segments : List Segment
  deriving DecidableEq, Repr

/-! ### Lanes -/

/-- The Tier-Closed flags of a lane, true for closed (R40, R45). -/
structure TierFlags where
  probe : Bool
  alert : Bool
  schedule : Bool
  job : Bool
  deriving DecidableEq, Repr

/-- All four tiers open (R40). -/
def TierFlags.open : TierFlags := ⟨false, false, false, false⟩

/-- The seven counters of a lane (R63). -/
structure LaneCounts where
  transactions : Nat
  retries : Nat
  slips : Nat
  stretchTimeouts : Nat
  arbLosses : Nat
  recoveries : Nat
  faults : Nat
  deriving DecidableEq, Repr

/-- The seven counters cleared (R63). -/
def LaneCounts.zero : LaneCounts := ⟨0, 0, 0, 0, 0, 0, 0⟩

/-- A Lane Engine (R36), with the lane's work list (R29) and job queue (R65) as its SCHEDULE and JOB tiers.
`waitingResets` holds the tags of the LANE_RESET commands whose replies wait (R61); `fromFault` says that the
recovery in progress began by leaving FAULTED (R59); `lookOwed` says that one of the happenings of R43 has occurred
and the lane has not looked for work since. -/
structure Lane where
  state : LaneState
  speed : Speed
  stretchLimit : Nat
  pollShare : Nat
  capacity : Nat
  budget : Nat
  remaining : Nat
  closed : TierFlags
  probeTier : List (Fin 32)
  alertTier : List (Fin 8)
  workList : List (Fin 48)
  jobs : List Job
  txn : Option Transaction
  reservation : Reservation
  lastFault : FaultCause
  waitingResets : List Byte
  fromFault : Bool
  counts : LaneCounts
  lookOwed : Bool
  deriving DecidableEq, Repr

/-- A lane after a part reset (R36). -/
def Lane.afterReset : Lane where
  state := .off
  speed := .s100
  stretchLimit := 25
  pollShare := 75
  capacity := 100
  budget := 75
  remaining := 0
  closed := .open
  probeTier := []
  alertTier := []
  workList := []
  jobs := []
  txn := none
  reservation := .none
  lastFault := .none
  waitingResets := []
  fromFault := false
  counts := .zero
  lookOwed := false

/-! ### Alert lines -/

/-- An alert line (R79). `level` is the Filtered Level, true for active. -/
structure Line where
  enabled : Bool
  polarity : Polarity
  mode : AlertMode
  filter : Fin 16
  boundPoll : Fin 48
  state : LineState
  level : Bool
  followUp : Bool
  closing : Bool
  extraEdges : Nat
  triggers : Nat
  deriving DecidableEq, Repr

/-- A line after a part reset (R79). -/
def Line.afterReset : Line := ⟨false, .low, .edge, 0, 0, .off, false, false, false, 0, 0⟩

/-! ### Buffer Pool and Result Queue -/

/-- Free-block count and low-water mark of the Buffer Pool (R106). The bytes of a held block stand with its holder. -/
structure Pool where
  free : Nat
  lowWater : Nat
  deriving DecidableEq, Repr

/-- Record Kind and Source of a result record with the fields that only its kind has (R111). -/
inductive RecordSource where
  | poll (p : Fin 48) (generation : Byte) (superseded : Nat)
  | alert (l : Fin 8) (generation : Byte) (extraEdges : Nat)
  | job (number : Nat) (tag : Byte) (acknowledged : Nat)
  deriving DecidableEq, Repr

/-- A result record (R111). `data` is its block with the bytes read, none for a record without Data. The
Acknowledged Count of a job that is no WRITE is held as 0, as it is sent (R159). -/
structure Record where
  source : RecordSource
  target : Fin 32
  cycle : Word16
  status : RecordStatus
  data : Option (List Byte)
  deriving DecidableEq, Repr

/-! ### Notices -/

/-- The host error counters (R132), and the counts of a HOST_ERRORS notice (R124). -/
structure HostErrors where
  gap : Nat
  length : Nat
  check : Nat
  overrun : Nat
  deriving DecidableEq, Repr

/-- No host errors. -/
def HostErrors.zero : HostErrors := ⟨0, 0, 0, 0⟩

/-- Kind, Subject and Contents of a notice (R122 to R124). -/
inductive NoticeBody where
  | laneState (lane : Fin 4) (state : LaneState) (cause : LaneCause)
  | targetState (target : Fin 32) (state : TargetState) (failures : Nat)
  | laneLoad (lane : Fin 4) (misses : Misses) (slips : Nat)
  | hostErrors (errors : HostErrors)
  deriving DecidableEq, Repr

/-- Kind and Subject together: the key of a notice (R122). -/
inductive NoticeKey where
  | laneState (lane : Fin 4)
  | targetState (target : Fin 32)
  | laneLoad (lane : Fin 4)
  | hostErrors
  deriving DecidableEq, Repr

/-- A notice waiting in the Notice Queue (R122). -/
structure Notice where
  body : NoticeBody
  occurrences : Nat
  deriving DecidableEq, Repr

/-! ### Host Port and Command Decoder -/

/-- The receiver (R130): its state, the inbound byte buffer from the LENGTH byte on, the count of bytes the frame
still expects, and whether the gap timer runs. -/
structure Receiver where
  on : Bool
  state : ReceiverState
  buffer : List Byte
  expects : Nat
  gapRunning : Bool
  deriving DecidableEq, Repr

/-- The receiver in HUNT with an empty buffer and the gap timer stopped, on or off (R141). -/
def Receiver.hunting (on : Bool) : Receiver := ⟨on, .hunt, [], 0, false⟩

/-- What a ready reply answers: an admitted command, the RESET command, or a frame that was not admitted (R135). -/
inductive ReplyOrigin where
  | command | resetCommand | refusal
  deriving DecidableEq, Repr

/-- An entry of the ready-reply list (R135), its contents fixed when it became ready (R145). -/
structure Reply where
  origin : ReplyOrigin
  kind : Byte
  tag : Byte
  body : List Byte
  deriving DecidableEq, Repr

/-- What the frame in the output buffer is. -/
inductive FrameContent where
  | announce
  | reply (origin : ReplyOrigin)
  | notice
  | result
  deriving DecidableEq, Repr

/-- The frame being sent, from SYNC to the last CHECK byte (R137, 12.1). -/
structure OutFrame where
  content : FrameContent
  bytes : List Byte
  deriving DecidableEq, Repr

/-! ### The whole part -/

/-- The state of the part. -/
structure State where
  /-- The queue of commands and events waiting, first in first out (the model's own). -/
  pending : List Instr
  /-- Operating State (R151). -/
  op : OpState
  /-- RSTn is low or the supply is below its operating level (R152). -/
  heldInReset : Bool
  /-- The supply is at its operating level (R152). -/
  supplyUp : Bool
  /-- The cause the next ANNOUNCE reports (R152, R153). -/
  resetCause : ResetCause
  /-- An ANNOUNCE waits to be taken (R136, R141). -/
  announcePending : Bool
  /-- Tag of the STOP whose reply is deferred (R146, R155). -/
  stopTag : Option Byte
  /-- CANCELLED records made by the drain since the STOP (R156). -/
  drainCancelled : Nat
  /-- The evaluation of the alert lines at START is still to be made (R93, R154). -/
  evaluationOwed : Bool
  /-- Cycle interval in ms (R14). -/
  interval : Nat
  /-- Cycle number (R14). -/
  cycle : Word16
  /-- Target Table (R1). -/
  targets : Table Target 32
  /-- Poll entries (R19). -/
  polls : Table Poll 48
  /-- Lane Engines (R36). -/
  lanes : Table Lane 4
  /-- Job-number counter (R66), before it passes over the numbers held at the next SUBMIT (notes/assumptions/31.md). -/
  nextJob : Nat
  /-- Alert lines (R79). -/
  lines : Table Line 8
  /-- Levels of the alert inputs, true for high (R80). -/
  alertPins : Table Bool 8
  /-- Buffer Pool (R106). -/
  pool : Pool
  /-- Result Queue, oldest first (R112). -/
  records : List Record
  /-- Notice Queue, oldest first (R122). -/
  notices : List Notice
  /-- Lost Notices (R122). -/
  lostNotices : Nat
  /-- Host Port rate (R129). -/
  rate : BitRate
  /-- Receiver (R130). -/
  receiver : Receiver
  /-- Transmitter: free, or sending the frame in its output buffer (R136, R137). -/
  transmitter : Option OutFrame
  /-- Report credit (R138). -/
  credit : Nat
  /-- Report sequence of the next report (R139). -/
  sequence : Word16
  /-- Host error counters (R132). -/
  errors : HostErrors
  /-- In-flight tag set in the order of admission (R133, R146). -/
  inFlight : List Byte
  /-- Ready replies and refusals, oldest first (R135). -/
  ready : List Reply
  /-- Choices the environment has fixed beforehand (the model's own, notes/assumptions/8.md). -/
  script : List (List Nat)
  /-- Number of free choices drawn so far (the model's own, notes/assumptions/8.md). -/
  draws : Nat
  deriving DecidableEq, Repr

/-- The part never stops with a fault: every command and event has an effect or none (R143, R134). No constructor,
so no meaning can raise one: safe. -/
inductive Fault where
  deriving DecidableEq, Repr

/-- Why a command has no meaning in the model. -/
inductive Refusal where
  /-- Raised by a refused arm of `exec` for a row that has no meaning yet; no arm raises it. Safe: the run stops. -/
  | notModelled (mnemonic : String)
  deriving DecidableEq, Repr

/-- The machine right after a power-on reset has ended: INIT, every block at its reset values (R152 and the rules it
lists). The levels of the pins are the model's choice (notes/assumptions/3.md). -/
def State.reset : State where
  pending := []
  op := .init
  heldInReset := false
  supplyUp := true
  resetCause := .powerOn
  announcePending := false
  stopTag := none
  drainCancelled := 0
  evaluationOwed := false
  interval := 10
  cycle := 0
  targets := Table.replicate 32 Target.free
  polls := Table.replicate 48 (Poll.free 0)
  lanes := Table.replicate 4 Lane.afterReset
  nextJob := 1
  lines := Table.replicate 8 Line.afterReset
  alertPins := Table.replicate 8 true
  pool := ⟨64, 64⟩
  records := []
  notices := []
  lostNotices := 0
  rate := .r115200
  receiver := Receiver.hunting false
  transmitter := none
  credit := 0
  sequence := 0
  errors := HostErrors.zero
  inFlight := []
  ready := []
  script := []
  draws := 0

end Sys2Proof.Machine
end

