-- ==== Sys2Proof/Machine/Codes.lean ====
section
/-! DEFINITION. The codes of the enumerated fields and the encoding of quantities (R159, 12.6). -/

namespace Sys2Proof.Machine

/-- A one-byte quantity (R159). -/
def byte (n : Nat) : Byte := BitVec.ofNat 8 n

/-- A two-byte quantity, high byte first (R159). -/
def word (n : Nat) : List Byte := [BitVec.ofNat 8 (n / 256), BitVec.ofNat 8 n]

/-- A two-valued field: 00h for no, open, clear, low or inactive, 01h for the other (R159). -/
def flag (b : Bool) : Byte := if b then 1 else 0

/-- Reply status codes (12.6). -/
def ReplyStatus.code : ReplyStatus → Byte
  | .ok => 0x00 | .full => 0x01 | .tagInUse => 0x02 | .badTag => 0x03 | .badKind => 0x04 | .badLength => 0x05
  | .badValue => 0x06 | .wrongState => 0x07 | .noEntry => 0x08 | .inUse => 0x09 | .conflict => 0x0A
  | .busy => 0x0B | .queueFull => 0x0C | .noSpace => 0x0D | .tooLong => 0x0E | .laneDown => 0x0F
  | .quarantined => 0x10 | .running => 0x11 | .notFound => 0x12

/-- Record status codes, also of Last Status (12.6). -/
def RecordStatus.code : RecordStatus → Byte
  | .ok => 0x00 | .addrNack => 0x01 | .dataNack => 0x02 | .stretchTimeout => 0x03 | .arbLost => 0x04
  | .busStuck => 0x05 | .aborted => 0x06 | .cancelled => 0x07 | .quarantined => 0x08

/-- Operating State codes (12.6); INIT is never reported (R151). -/
def OpState.code : OpState → Byte
  | .init => 0x00 | .standby => 0x01 | .running => 0x02 | .draining => 0x03

/-- Target State codes (12.6). -/
def TargetState.code : TargetState → Byte
  | .free => 0x00 | .online => 0x01 | .suspect => 0x02 | .quarantined => 0x03

/-- Poll State codes (12.6). -/
def PollState.code : PollState → Byte
  | .free => 0x00 | .active => 0x01 | .paused => 0x02

/-- Lane State codes (12.6). -/
def LaneState.code : LaneState → Byte
  | .off => 0x00 | .idle => 0x01 | .busy => 0x02 | .recovering => 0x03 | .faulted => 0x04

/-- Line State codes (12.6). -/
def LineState.code : LineState → Byte
  | .off => 0x00 | .armed => 0x01 | .pending => 0x02 | .running => 0x03 | .holdoff => 0x04

/-- Report Mode codes (12.6). -/
def ReportMode.code : ReportMode → Byte
  | .every => 0x00 | .change => 0x01 | .delta => 0x02

/-- Value Order codes (12.6). -/
def ValueOrder.code : ValueOrder → Byte
  | .big => 0x00 | .little => 0x01

/-- Job Kind and Operation codes (12.6). -/
def Operation.code : Operation → Byte
  | .read => 0x00 | .write => 0x01 | .probe => 0x02

/-- Current Transaction Kind codes (12.6). -/
def Work.code : Work → Byte
  | .poll _ => 0x01 | .alert _ => 0x02 | .job _ => 0x03 | .probe => 0x04

/-- Reservation codes of READ_LANE (12.6). -/
def Reservation.code : Reservation → Byte
  | .none => 0x00 | .slot => 0x01 | .slotAndBlock => 0x02

/-- Last Fault Cause codes (12.6). -/
def FaultCause.code : FaultCause → Byte
  | .none => 0x00 | .sclHeld => 0x01 | .sdaHeld => 0x02

/-- LANE_STATE Cause codes (12.6). -/
def LaneCause.code : LaneCause → Byte
  | .faultSclHeld => 0x00 | .faultSdaHeld => 0x01 | .recovered => 0x02 | .reset => 0x03

/-- Polarity codes (12.6). -/
def Polarity.code : Polarity → Byte
  | .low => 0x00 | .high => 0x01

/-- Mode codes of an alert line (12.6). -/
def AlertMode.code : AlertMode → Byte
  | .edge => 0x00 | .level => 0x01

/-- Class codes of CLEAR_COUNTERS (12.6). -/
def CounterClass.code : CounterClass → Byte
  | .all => 0x00 | .target => 0x01 | .poll => 0x02 | .lane => 0x03 | .alert => 0x04 | .result => 0x05
  | .host => 0x06

/-- Reset Cause codes (12.6). -/
def ResetCause.code : ResetCause → Byte
  | .powerOn => 0x00 | .resetPin => 0x01 | .resetCommand => 0x02

/-- The lane speed in kbit/s (R36). -/
def Speed.kbits : Speed → Nat
  | .s100 => 100 | .s400 => 400 | .s1000 => 1000

end Sys2Proof.Machine
end

