-- ==== Sys2Proof/Machine/Frames.lean ====
section
/-! DEFINITION. Characters of the Host Port (R129) and frames: the CHECK computation (R158), the frame layout (12.1), reply
kinds (R134, 12.2) and the layouts of the frames the part sends (12.5). -/

namespace Sys2Proof.Machine

/-! ### Characters (R129) -/

/-- The level of a start bit (R129). -/
def startLevel : Bool := false

/-- The level of a stop bit, at which HTX is held when nothing is being sent (R129). -/
def stopLevel : Bool := true

/-- The data bits of a byte in the order in which they are sent: least significant bit first (R129). -/
def dataLevels (b : Byte) : Vector Bool 8 := Vector.ofFn fun i => b.getLsbD i.val

/-- The levels of a character, one for each of its 10 bit-times: one start bit, 8 data bits, no parity, one stop bit
(R129). -/
def characterLevels (b : Byte) : List Bool := startLevel :: ((dataLevels b).toList ++ [stopLevel])

/-- The byte that a received character carries: its data bits, least significant bit first; a stop bit found low changes
nothing (R129). -/
def characterByte (c : Character) : Byte := (BitVec.ofBoolListLE c.data.toList).setWidth 8

/-- The character that a sender whose line is in order sends for a byte, begun with the receiver on. -/
def characterOf (b : Byte) : Character := ⟨dataLevels b, stopLevel, false⟩

/-! ### Frames (12.1, R158) -/

/-- One bit of the CHECK computation: generator polynomial 1021h (R158). -/
def crcBit (crc : Word16) : Word16 :=
  if crc.msb then (crc <<< 1) ^^^ 0x1021#16 else crc <<< 1

/-- One byte enters the computation, most significant bit first (R158). -/
def crcByte (crc : Word16) (b : Byte) : Word16 :=
  crcBit (crcBit (crcBit (crcBit (crcBit (crcBit (crcBit (crcBit (crc ^^^ (b ++ 0#8)))))))))

/-- The 16-bit CHECK of a list of bytes, starting at FFFFh, neither reflected nor inverted (R158). -/
def crc (bytes : List Byte) : Word16 := bytes.foldl crcByte 0xFFFF#16

/-- The two CHECK bytes, high byte first (R158). -/
def crcBytes (bytes : List Byte) : List Byte := [(crc bytes).extractLsb' 8 8, (crc bytes).extractLsb' 0 8]

/-- The bytes from LENGTH through BODY (12.1). -/
def frameCore (kind tag : Byte) (body : List Byte) : List Byte := byte (body.length + 2) :: kind :: tag :: body

/-- A whole frame: SYNC, LENGTH, KIND, TAG, BODY, CHECK (12.1). -/
def frameBytes (kind tag : Byte) (body : List Byte) : List Byte :=
  0x5A#8 :: (frameCore kind tag body ++ crcBytes (frameCore kind tag body))

/-- The kind of a reply: the KIND plus 80h, wrapping within the byte, and 80h for a KIND whose sum would be the kind
of a RESULT, NOTICE or ANNOUNCE frame (R134, R142, R145). -/
def replyKind (kind : Byte) : Byte :=
  if kind = 0x40 ∨ kind = 0x41 ∨ kind = 0x42 then 0x80 else kind + 0x80

/-- Record Kind code (12.6). -/
def RecordSource.code : RecordSource → Byte
  | .poll _ _ _ => 0x00 | .alert _ _ _ => 0x01 | .job _ _ _ => 0x02

/-- Source: poll number, alert line or Job Number (R111). -/
def RecordSource.number : RecordSource → Nat
  | .poll p _ _ => p.val | .alert l _ _ => l.val | .job n _ _ => n

/-- Generation, 0 for JOB (R111, 12.5). -/
def RecordSource.generation : RecordSource → Byte
  | .poll _ g _ => g | .alert _ g _ => g | .job _ _ _ => 0

/-- Origin Tag, 0 for POLL and ALERT (R111, 12.5). -/
def RecordSource.originTag : RecordSource → Byte
  | .poll _ _ _ => 0 | .alert _ _ _ => 0 | .job _ tag _ => tag

/-- Acknowledged Count, 0 except for WRITE jobs (R111, 12.5). -/
def RecordSource.acknowledged : RecordSource → Nat
  | .poll _ _ _ => 0 | .alert _ _ _ => 0 | .job _ _ acked => acked

/-- Superseded, always 0 for ALERT and JOB (R111). -/
def RecordSource.superseded : RecordSource → Nat
  | .poll _ _ sup => sup | .alert _ _ _ => 0 | .job _ _ _ => 0

/-- Extra Edges, 0 except for ALERT (R111, 12.5). -/
def RecordSource.extraEdges : RecordSource → Nat
  | .poll _ _ _ => 0 | .alert _ _ edges => edges | .job _ _ _ => 0

/-- BODY of a RESULT frame (12.5). -/
def resultBody (seq : Word16) (r : Record) : List Byte :=
  word seq.toNat ++ [r.source.code] ++ word r.source.number
    ++ [r.source.generation, r.source.originTag, byte r.target.val] ++ word r.cycle.toNat
    ++ [r.status.code, byte r.source.acknowledged, byte r.source.superseded, byte r.source.extraEdges,
        byte (r.data.getD []).length] ++ r.data.getD []

/-- Contents of a NOTICE frame from offset 6, with the Notice Kind and Subject before them (12.5). -/
def noticeFields : NoticeBody → Byte × Byte × List Byte
  | .laneState l st cause => (0x00, byte l.val, [st.code, cause.code])
  | .targetState t st f => (0x01, byte t.val, [st.code, byte f])
  | .laneLoad l m slips =>
    (0x02, byte l.val, word m.shed ++ word m.late ++ word m.quarantined ++ word m.laneDown ++ word slips)
  | .hostErrors e => (0x03, 0, word e.gap ++ word e.length ++ word e.check ++ word e.overrun)

/-- BODY of a NOTICE frame (12.5). -/
def noticeBody (seq : Word16) (lost : Nat) (n : Notice) : List Byte :=
  match noticeFields n.body with
  | (kind, subject, contents) => word seq.toNat ++ [byte lost, kind, subject, byte n.occurrences] ++ contents

/-- BODY of an ANNOUNCE frame (R153, 12.5). -/
def announceBody (cause : ResetCause) : List Byte :=
  [cause.code, 0x01, 0x04, 0x20, 0x30, 0x08, 0x40, 0x30, 0x10, 0x08]

end Sys2Proof.Machine
end

