-- ==== Sys2Proof/Machine/Ops.lean ====
section
/-! DEFINITION. The shared operations: entries, saturating counters, free choices, waking lanes, record slots and
pool blocks, records, notices, replies, the arbiter. -/

namespace Sys2Proof.Machine

/-! ### Entries -/

/-- The target entry `t`. -/
def State.target (s : State) (t : Fin 32) : Target := s.targets.get t

/-- The poll entry `p`. -/
def State.poll (s : State) (p : Fin 48) : Poll := s.polls.get p

/-- The lane `i`. -/
def State.lane (s : State) (i : Fin 4) : Lane := s.lanes.get i

/-- The alert line `l`. -/
def State.line (s : State) (l : Fin 8) : Line := s.lines.get l

/-- Target entry `t` replaced. -/
def State.setTarget (s : State) (t : Fin 32) (x : Target) : State := { s with targets := s.targets.set t x }

/-- Poll entry `p` replaced. -/
def State.setPoll (s : State) (p : Fin 48) (x : Poll) : State := { s with polls := s.polls.set p x }

/-- Lane `i` replaced. -/
def State.setLane (s : State) (i : Fin 4) (x : Lane) : State := { s with lanes := s.lanes.set i x }

/-- Alert line `l` replaced. -/
def State.setLine (s : State) (l : Fin 8) (x : Line) : State := { s with lines := s.lines.set l x }

/-! ### Counters (0.6: every counter saturates) -/

/-- One more, stopping at `limit`. -/
def countUp (limit n : Nat) : Nat := if n < limit then n + 1 else n

/-- A 16-bit counter counts one. -/
def count16 (n : Nat) : Nat := countUp 65535 n

/-- An 8-bit counter counts one. -/
def count8 (n : Nat) : Nat := countUp 255 n

/-- A sum that saturates at 65535 (R124). -/
def sum16 (a b : Nat) : Nat := min (a + b) 65535

/-- One miss of the given reason counted (R33). -/
def Misses.count (m : Misses) : MissReason → Misses
  | .shed => { m with shed := count16 m.shed }
  | .late => { m with late := count16 m.late }
  | .quarantined => { m with quarantined := count16 m.quarantined }
  | .laneDown => { m with laneDown := count16 m.laneDown }

/-- The sums of two sets of misses, each saturating (R124). -/
def Misses.add (a b : Misses) : Misses :=
  ⟨sum16 a.shed b.shed, sum16 a.late b.late, sum16 a.quarantined b.quarantined, sum16 a.laneDown b.laneDown⟩

/-- The sums of two sets of host errors, each saturating (R124). -/
def HostErrors.add (a b : HostErrors) : HostErrors :=
  ⟨sum16 a.gap b.gap, sum16 a.length b.length, sum16 a.check b.check, sum16 a.overrun b.overrun⟩

/-! ### Choices the spec leaves open (notes/assumptions/8.md) -/

/-- The next free choice: scripted by the environment, or a free value. -/
def State.choice (s : State) : List Nat :=
  match s.script with
  | c :: _ => c
  | [] => Config.choice s.draws

/-- The state after that choice has been drawn. -/
def State.afterChoice (s : State) : State :=
  match s.script with
  | _ :: rest => { s with script := rest }
  | [] => { s with draws := s.draws + 1 }

/-- A reordering of `l` that `picks` selects; every order of `l` is selected by some `picks`. -/
def reorder {α : Type} (picks : List Nat) (l : List α) : List α :=
  match l with
  | [] => []
  | [a] => [a]
  | a :: b :: rest =>
    match picks with
    | [] => a :: b :: rest
    | k :: ks =>
      ((a :: b :: rest).drop (k % (rest.length + 2))).take 1
        ++ reorder ks ((a :: b :: rest).eraseIdx (k % (rest.length + 2)))

/-! ### Waking lanes (R43) -/

/-- A happening of R43 reaches a lane: an IDLE lane owes a look for work. -/
def Lane.wake (l : Lane) : Lane := if l.state = .idle then { l with lookOwed := true } else l

/-- A happening of R43 at lane `i`; lanes look for work in RUNNING only. -/
def wakeLane (i : Fin 4) (s : State) : State :=
  if s.op = .running then s.setLane i (s.lane i).wake else s

/-- A happening of R43 at every lane: a cycle starts, or a record slot or a pool block is freed. -/
def wakeAll (s : State) : State :=
  if s.op = .running then { s with lanes := s.lanes.map Lane.wake } else s

/-! ### Record slots and pool blocks (R106 to R110) -/

/-- Number of reservations held by the lanes (R109). -/
def State.reservations (s : State) : Nat := s.lanes.toList.countP (fun l => l.reservation != .none)

/-- Record slots used: records and reservations (R109). -/
def State.slotsUsed (s : State) : Nat := s.records.length + s.reservations

/-- A record slot is free (R109). -/
def State.slotFree (s : State) : Bool := decide (s.slotsUsed < Config.recordSlots)

/-- Free record slots (R109). -/
def State.freeSlots (s : State) : Nat := Config.recordSlots - s.slotsUsed

/-- One block is claimed and the low-water mark kept (R107). -/
def claimBlock (s : State) : State :=
  { s with pool := ⟨s.pool.free - 1, min s.pool.lowWater (s.pool.free - 1)⟩ }

/-- One block is freed (R108), which every lane watches. -/
def releaseBlock (s : State) : State :=
  wakeAll { s with pool := { s.pool with free := s.pool.free + 1 } }

/-- A block is freed if there is one to free. -/
def releaseIf (held : Bool) (s : State) : State := if held then releaseBlock s else s

/-- A Reservation, already taken from its lane, is released: its slot is free again and its block, if any, is freed
(R110). -/
def releaseReservation (r : Reservation) (s : State) : State :=
  match r with
  | .none => s
  | .slot => wakeAll s
  | .slotAndBlock => releaseBlock s

/-- A record joins the Result Queue at its tail (R112). -/
def addRecord (r : Record) (s : State) : State := { s with records := s.records ++ [r] }

/-! ### Notices (R122 to R125) -/

/-- Kind and Subject of a posting (R122). -/
def NoticeBody.key : NoticeBody → NoticeKey
  | .laneState l _ _ => .laneState l
  | .targetState t _ _ => .targetState t
  | .laneLoad l _ _ => .laneLoad l
  | .hostErrors _ => .hostErrors

/-- A posting written into a waiting notice of its key: states are replaced (R123), counts are added (R124). -/
def NoticeBody.merge (old new : NoticeBody) : NoticeBody :=
  match old, new with
  | .laneLoad l m slips, .laneLoad _ m' slips' => .laneLoad l (m.add m') (sum16 slips slips')
  | .hostErrors e, .hostErrors e' => .hostErrors (e.add e')
  | _, _ => new

/-- The posting written into the notice of its key (R125). -/
def mergeNotice (b : NoticeBody) (n : Notice) : Notice :=
  if n.body.key = b.key then ⟨n.body.merge b, count8 n.occurrences⟩ else n

/-- One posting at the Notice Queue (R125). -/
def post (b : NoticeBody) (s : State) : State :=
  if s.notices.any (fun n => n.body.key = b.key) then { s with notices := s.notices.map (mergeNotice b) }
  else if s.notices.length < Config.noticePlaces then { s with notices := s.notices ++ [⟨b, 1⟩] }
  else { s with lostNotices := count8 s.lostNotices }

/-! ### Replies (R135, R145) -/

/-- A reply or refusal becomes ready (R135). -/
def makeReady (r : Reply) (s : State) : State := { s with ready := s.ready ++ [r] }

/-- The OK reply of the command KIND with its result fields. -/
def okReply (tag kind : Byte) (fields : List Byte) : Reply :=
  ⟨.command, replyKind kind, tag, ReplyStatus.ok.code :: fields⟩

/-- An accepted command is answered OK with its result fields (R145). -/
def answer (tag kind : Byte) (fields : List Byte) (s : State) : State := makeReady (okReply tag kind fields) s

/-- A command that fails a check is answered with that status and no result fields (R142, R145). -/
def deny (tag kind : Byte) (status : ReplyStatus) (s : State) : State :=
  makeReady ⟨.command, replyKind kind, tag, [status.code]⟩ s

/-! ### The Outbound Arbiter (R136) -/

/-- The ANNOUNCE is taken (R136, R141). -/
def takeAnnounce (s : State) : State :=
  { s with announcePending := false
           transmitter := some ⟨.announce, frameBytes 0xC2 0 (announceBody s.resetCause)⟩ }

/-- The oldest ready reply is taken: the tag of an admitted command leaves the in-flight tag set (R133, R136). -/
def takeReply (r : Reply) (rest : List Reply) (s : State) : State :=
  { s with ready := rest
           inFlight := if r.origin = .refusal then s.inFlight else s.inFlight.erase r.tag
           transmitter := some ⟨.reply r.origin, frameBytes r.kind r.tag r.body⟩ }

/-- The head notice is taken with the Lost Notices value (R126), one credit (R138) and one sequence number (R139). -/
def takeNotice (n : Notice) (rest : List Notice) (s : State) : State :=
  { s with notices := rest
           lostNotices := 0
           credit := s.credit - 1
           sequence := s.sequence + 1
           transmitter := some ⟨.notice, frameBytes 0xC1 0 (noticeBody s.sequence s.lostNotices n)⟩ }

/-- The Waiting Record link after the head record has been taken (R117): the places count down. -/
def Poll.headTaken (p : Poll) : Poll :=
  { p with link := match p.link with | some (k + 1) => some k | _ => none }

/-- The head record is taken (R120): its slot and its block are freed, a link that names it becomes absent. -/
def takeRecord (r : Record) (rest : List Record) (s : State) : State :=
  releaseIf r.data.isSome <| wakeAll
    { s with records := rest
             polls := s.polls.map Poll.headTaken
             credit := s.credit - 1
             sequence := s.sequence + 1
             transmitter := some ⟨.result, frameBytes 0xC0 0 (resultBody s.sequence r)⟩ }

/-- The Outbound Arbiter: while the transmitter is free it takes the ANNOUNCE, the oldest ready reply, or against
credit the head notice or the head record, in this order (R136). -/
def arbitrate (s : State) : State :=
  if s.transmitter.isSome then s
  else if s.announcePending then takeAnnounce s
  else match s.ready with
    | r :: rest => takeReply r rest s
    | [] =>
      if s.credit = 0 then s
      else match s.notices with
        | n :: rest => takeNotice n rest s
        | [] =>
          match s.records with
          | r :: rest => takeRecord r rest s
          | [] => s

/-- A happening has had its effects: the arbiter looks (R136), and the step answers the next state. -/
def finish (s : State) : Host.Outcome State Fault Refusal := .next (arbitrate s)

/-! ### Costs (R17, R41) -/

/-- Capacity in byte-times per cycle (R17). -/
def capacityOf (interval : Nat) (speed : Speed) : Nat := interval * speed.kbits / 10

/-- Poll budget in byte-times per cycle (R17). -/
def budgetOf (capacity share : Nat) : Nat := capacity * share / 100

/-- Cost of one attempt with register width `w` and `n` data bytes (R41). -/
def costOf (op : Operation) (w n : Nat) : Nat :=
  match op with
  | .read => if w = 0 then n + 2 else w + n + 4
  | .write => w + n + 2
  | .probe => 2

/-- Cost of the poll entry `p` (R18). -/
def pollCost (s : State) (p : Fin 48) : Nat :=
  costOf .read (s.target (s.poll p).defn.target).width.val (s.poll p).defn.byteCount

/-- The lane of a poll entry: the Lane of its Target (R19). -/
def pollLane (s : State) (p : Fin 48) : Fin 4 := (s.target (s.poll p).defn.target).lane

/-- The lane of an alert line: the lane of its Bound Poll (R79). -/
def lineLane (s : State) (l : Fin 8) : Fin 4 := pollLane s (s.line l).boundPoll

/-- The target is QUARANTINED. -/
def State.isQuarantined (s : State) (t : Fin 32) : Bool := (s.target t).state == .quarantined

/-! ### The end of DRAINING (R156) -/

/-- The condition that ends DRAINING (R156). -/
def drainDone (s : State) : Bool :=
  s.op == .draining
    && s.lanes.toList.all (fun l => l.state != .busy && l.state != .recovering && l.jobs.isEmpty)
    && s.lines.toList.all (fun l => l.state != .running)

/-- The reply of the STOP whose reply is deferred: Last Cycle and Jobs Cancelled (R156). -/
def stopReply (s : State) : List Reply :=
  match s.stopTag with
  | some tag => [okReply tag 0x06 (word s.cycle.toNat ++ [byte s.drainCancelled])]
  | none => []

/-- Replies made ready in one happening join in the order in which their commands were admitted (R146): `late` goes
before the first of `others` that was admitted after it. -/
def inAdmissionOrder (inFlight : List Byte) (others late : List Reply) : List Reply :=
  match late with
  | [] => others
  | r :: _ =>
    let earlier : Reply → Bool := fun x => decide (inFlight.idxOf x.tag < inFlight.idxOf r.tag)
    others.takeWhile earlier ++ late ++ others.dropWhile earlier

/-- The replies `others` of this happening become ready, and DRAINING ends if its condition holds (R156): the part
enters STANDBY and the STOP reply becomes ready. -/
def finishDrain (others : List Reply) (s : State) : State :=
  if drainDone s then
    { s with op := .standby
             stopTag := none
             ready := s.ready ++ inAdmissionOrder s.inFlight others (stopReply s) }
  else { s with ready := s.ready ++ others }

end Sys2Proof.Machine
end

