-- ==== Sys2Proof/Machine/Bus.lean ====
section
/-! DEFINITION. What an attempt sends on its lane and how it ends there (R48 to R53), the recovery procedure on the bus
(R57), and the final outcome of a transaction that the bus result gives. -/

namespace Sys2Proof.Machine

/-! ### Segments of an attempt (R50) -/

/-- The address byte: the Bus Address in the upper seven bits, the read bit (1) or write bit (0) in the lowest
(R50). -/
def addressByte (address : BitVec 7) (read : Bool) : Byte := address ++ BitVec.ofBool read

/-- The register bytes, high byte first (R50). -/
def registerBytes (width : Fin 3) (register : Word16) : List Byte :=
  match width with
  | 0 => []
  | 1 => [register.extractLsb' 0 8]
  | 2 => [register.extractLsb' 8 8, register.extractLsb' 0 8]

/-- The segments of an attempt at target `t`, `data` being the bytes of a WRITE (R50). -/
def segmentsOf (t : Target) (op : Operation) (register : Word16) (n : Nat) (data : List Byte) : List Segment :=
  match op with
  | .read =>
    if t.width = 0 then [⟨addressByte t.busAddress true, [], n⟩]
    else [⟨addressByte t.busAddress false, registerBytes t.width register, 0⟩,
          ⟨addressByte t.busAddress true, [], n⟩]
  | .write => [⟨addressByte t.busAddress false, registerBytes t.width register ++ data, 0⟩]
  | .probe => [⟨addressByte t.busAddress false, [], 0⟩]

/-- Bytes of a segment: the address byte, the bytes written and the bytes read (R41). -/
def Segment.bytes (g : Segment) : Nat := 1 + g.written.length + g.reads

/-- Register and data bytes written in an attempt. -/
def writtenCount (gs : List Segment) : Nat := (gs.map fun g => g.written.length).sum

/-! ### Bus conditions and bits (R48, R51) -/

/-- The side that sends a bit on SDA (R48). -/
inductive Side where
  | part
  | target
  deriving DecidableEq, Repr

/-- A mark on the bus: one of the three bus conditions, a bit with the side that sends it and its level, true for a released
SDA (R48), or the part's release of both lines where they stand, which ends an attempt that is cut short (R52, R53, R60). -/
inductive BusMark where
  | start
  | repeatedStart
  | stop
  | bit (side : Side) (level : Bool)
  | release
  deriving DecidableEq, Repr

/-- Levels of SCL and SDA through one mark: SDA changes while SCL is high in the three bus conditions only (R48). Lines that
the part has released are high unless something else on the bus holds them low, as it does where it has cut the attempt
short (R52, R53). -/
def BusMark.levels : BusMark → List (Bool × Bool)
  | .start => [(true, true), (true, false), (false, false)]
  | .repeatedStart => [(false, true), (true, true), (true, false), (false, false)]
  | .stop => [(false, false), (true, false), (true, true)]
  | .bit _ level => [(false, level), (true, level), (false, level)]
  | .release => [(true, true)]

/-- The eight data bits of a byte slot (R51), the most significant bit first, which is PRESUMED
(notes/assumptions/30.md). -/
def byteBits (side : Side) (b : Byte) : List BusMark :=
  [7, 6, 5, 4, 3, 2, 1, 0].map fun k => BusMark.bit side (b.getLsbD k)

/-- The acknowledge bit: the side receiving the byte drives SDA low to acknowledge it (R48). -/
def ackBit (side : Side) (acknowledges : Bool) : BusMark := .bit side (!acknowledges)

/-! ### The course of an attempt (R49 to R53) -/

/-- What an attempt goes through, in order: the condition that opens a segment, and its byte slots (R50, R51). -/
inductive BusItem where
  | opening (condition : BusMark)
  | address (b : Byte)
  | written (b : Byte)
  | read (b : Byte) (last : Bool)
  deriving DecidableEq, Repr

/-- The marks of an item, `acknowledged` saying whether the target acknowledges a byte of the part; the part acknowledges
every byte it reads but the last (R51). -/
def BusItem.marks (acknowledged : Bool) : BusItem → List BusMark
  | .opening condition => [condition]
  | .address b | .written b => byteBits .part b ++ [ackBit .target acknowledged]
  | .read b last => byteBits .target b ++ [ackBit .part (!last)]

/-- The byte slots of a read (R51). -/
def readItems : List Byte → List BusItem
  | [] => []
  | [b] => [.read b true]
  | b :: c :: rest => .read b false :: readItems (c :: rest)

/-- The byte slots of a segment, `data` being the bytes the target sends (R50). -/
def Segment.items (g : Segment) (data : List Byte) : List BusItem :=
  .address g.address :: (g.written.map .written ++ readItems (data.take g.reads))

/-- The segments after the first, each opened by a repeated START (R50). -/
def laterItems (data : List Byte) : List Segment → List BusItem
  | [] => []
  | g :: gs => .opening .repeatedStart :: (g.items data ++ laterItems data gs)

/-- The items of an attempt (R50). Only the last of its segments reads. -/
def attemptItems (data : List Byte) : List Segment → List BusItem
  | [] => []
  | g :: gs => .opening .start :: (g.items data ++ laterItems data gs)

/-- What the part puts on the bus and finds there until the STOP it issues (R50, R51). `nack` counts the bytes the part
sends before the first one that the target does not acknowledge; that byte is followed by STOP. -/
def carriedMarks : Option Nat → List BusItem → List BusMark
  | _, [] => [.stop]
  | some 0, .address b :: _ => (BusItem.address b).marks false ++ [.stop]
  | some 0, .written b :: _ => (BusItem.written b).marks false ++ [.stop]
  | some (n + 1), .address b :: rest => (BusItem.address b).marks true ++ carriedMarks (some n) rest
  | some (n + 1), .written b :: rest => (BusItem.written b).marks true ++ carriedMarks (some n) rest
  | none, .address b :: rest => (BusItem.address b).marks true ++ carriedMarks none rest
  | none, .written b :: rest => (BusItem.written b).marks true ++ carriedMarks none rest
  | nack, .opening condition :: rest => condition :: carriedMarks nack rest
  | nack, .read b last :: rest => (BusItem.read b last).marks true ++ carriedMarks nack rest

/-- How an attempt that comes to its STOP ends (R50, R51): `dataNack` counts the bytes written, register bytes included,
before the one that was not acknowledged. -/
inductive AttemptEnd where
  | ok
  | addrNack
  | dataNack (index : Nat)
  deriving DecidableEq, Repr

/-- The end of an attempt, `written` bytes having been written before these items (R51). -/
def attemptEnd (written : Nat) : Option Nat → List BusItem → AttemptEnd
  | _, [] => .ok
  | some 0, .address _ :: _ => .addrNack
  | some 0, .written _ :: _ => .dataNack written
  | some (n + 1), .address _ :: rest => attemptEnd written (some n) rest
  | some (n + 1), .written _ :: rest => attemptEnd (written + 1) (some n) rest
  | none, .address _ :: rest => attemptEnd written none rest
  | none, .written _ :: rest => attemptEnd (written + 1) none rest
  | nack, .opening _ :: rest => attemptEnd written nack rest
  | nack, .read _ _ :: rest => attemptEnd written nack rest

/-- What can cut an attempt short: SCL held low for the Stretch Limit (R52), SDA read low where the part checks it (R53), or
LANE_RESET (R60). -/
inductive Cut where
  | stretchTimeout
  | arbLost
  | aborted
  deriving DecidableEq, Repr

/-- The part releases SCL in the mark and waits for it to go high (R52): in every bit, before a repeated START and before
STOP. At START the bus is idle (R48). -/
def BusMark.releasesScl : BusMark → Bool
  | .start | .release => false
  | .repeatedStart | .stop | .bit _ _ => true

/-- The part releases SDA in the mark and reads it back, so that SDA low is an arbitration loss (R53): in a bit that the part
sends with SDA released, and for a repeated START or a STOP. A bit that the part drives low, and the target's acknowledge and
data bits, can lose none. -/
def BusMark.readsSdaBack : BusMark → Bool
  | .bit .part level => level
  | .repeatedStart | .stop => true
  | .start | .release | .bit .target _ => false

/-- The mark is one in which the cause can cut the attempt short (R52, R53); LANE_RESET can at every point (R60). -/
def Cut.strikes : Cut → BusMark → Bool
  | .stretchTimeout, m => m.releasesScl
  | .arbLost, m => m.readsSdaBack
  | .aborted, _ => true

/-- The course of an attempt: the idle check fails (R49), it comes to its STOP, or a cause of being cut short is met in the
mark after the first `count`. -/
inductive Course where
  | busStuck
  | carried (nack : Option Nat)
  | cut (cause : Cut) (nack : Option Nat) (count : Nat)
  deriving DecidableEq, Repr

/-- The course that comes of it: where the cause cannot strike, SDA low is a normal level and the attempt goes on
(R53). -/
def Course.taken (gs : List Segment) (data : List Byte) : Course → Course
  | .busStuck => .busStuck
  | .carried nack => .carried nack
  | .cut cause nack count =>
    match (carriedMarks nack (attemptItems data gs))[count]? with
    | some m => if cause.strikes m then .cut cause nack count else .carried nack
    | none => .carried nack

/-- The marks of an attempt on the bus. With the idle check failed the part drives nothing (R49); cut short it releases both
lines at once and sends nothing further, no STOP among it (R52, R53, R60). -/
def Course.marks (gs : List Segment) (data : List Byte) (c : Course) : List BusMark :=
  match c.taken gs data with
  | .busStuck => []
  | .carried nack => carriedMarks nack (attemptItems data gs)
  | .cut _ nack count => (carriedMarks nack (attemptItems data gs)).take count ++ [.release]

/-- The event that reports the course to lane `i` (R49 to R53); an abort is reported by no event, it is the effect of
LANE_RESET (R60). -/
def Course.row (i : Fin 4) (gs : List Segment) (data : List Byte) (c : Course) : Option Instr :=
  match c.taken gs data with
  | .busStuck => some (.busStuck i)
  | .carried nack =>
    match attemptEnd 0 nack (attemptItems data gs) with
    | .ok => some (.transactionEnd i (.completed data))
    | .addrNack => some (.attemptAddrNack i)
    | .dataNack index => some (.transactionEnd i (.notAcknowledged index))
  | .cut .stretchTimeout _ _ => some (.stretchTimeout i)
  | .cut .arbLost _ _ => some (.arbLost i)
  | .cut .aborted _ _ => none

/-! ### The recovery procedure on the bus (R57) -/

/-- What the lane finds when it has released SCL: SCL still low at 25 ms, or SCL high and this level of SDA (R57). -/
inductive LineAnswer where
  | sclHeld
  | sda (high : Bool)
  deriving DecidableEq, Repr

/-- What the recovery procedure drives: a clock pulse, a STOP condition, or a STOP that a line found low keeps from
completing. -/
inductive RecoveryMark where
  | pulse
  | stop
  | stopFailed
  deriving DecidableEq, Repr

/-- Where the recovery procedure stands: still under way, or ended in one of the three ways of R57. -/
inductive RecoveryEnd where
  | underWay
  | busFree
  | sdaHeld
  | sclHeld
  deriving DecidableEq, Repr

/-- What the recovery procedure drives, `left` of its twelve pulses being left, and where it then stands, by what the lane
finds in turn (R57): SDA low is clocked out, and with both lines high STOP is issued, after which the lines are found once
more. -/
def recoveryCourse (left : Nat) : List LineAnswer → List RecoveryMark × RecoveryEnd
  | [] => ([], .underWay)
  | .sclHeld :: _ => ([], .sclHeld)
  | .sda false :: rest =>
    match left with
    | 0 => ([], .sdaHeld)
    | n + 1 => (.pulse :: (recoveryCourse n rest).1, (recoveryCourse n rest).2)
  | .sda true :: rest =>
    match rest with
    | [] => ([], .underWay)
    | .sda true :: _ => ([.stop], .busFree)
    | .sda false :: _ | .sclHeld :: _ => (.stopFailed :: (recoveryCourse left rest).1, (recoveryCourse left rest).2)

/-- The event that reports the end of the recovery procedure of lane `i` (R57), none while it is under way. -/
def RecoveryEnd.row (i : Fin 4) : RecoveryEnd → Option Instr
  | .underWay => none
  | .busFree => some (.recoveryEnd i .busFree)
  | .sdaHeld => some (.recoveryEnd i .sdaHeld)
  | .sclHeld => some (.recoverySclTimeout i)

/-! ### The final outcome (R50, R51) -/

/-- A final outcome (R55): its status, the bytes read by a READ that ended OK, and for a WRITE that ended OK or
DATA_NACK the number of data bytes acknowledged. -/
structure Final where
  status : RecordStatus
  data : List Byte
  acked : Nat
  deriving DecidableEq, Repr

/-- An outcome that carries neither data nor an Acknowledged Count. -/
def Final.plain (status : RecordStatus) : Final := ⟨status, [], 0⟩

/-- The data bytes a transaction writes. -/
def Transaction.dataWritten (x : Transaction) : Nat := if x.op = .write then x.byteCount else 0

/-- The data bytes a transaction reads. -/
def Transaction.dataRead (x : Transaction) : Nat := if x.op = .read then x.byteCount else 0

/-- The final outcome of the transaction `x` for a bus result, none where the result is not one that `x` can have:
OK with the bytes read, or DATA_NACK with the data bytes acknowledged before the byte that was not (R50, R51). -/
def finalOf (x : Transaction) : BusResult → Option Final
  | .completed data => if data.length = x.dataRead then some ⟨.ok, data, x.dataWritten⟩ else none
  | .notAcknowledged k =>
    if k < writtenCount x.segments then
      some ⟨.dataNack, [], k - (writtenCount x.segments - x.dataWritten)⟩
    else none

/-- After these outcomes the lane goes to RECOVERING (R55). -/
def RecordStatus.needsRecovery : RecordStatus → Bool
  | .stretchTimeout | .arbLost | .busStuck | .aborted => true
  | .ok | .addrNack | .dataNack | .cancelled | .quarantined => false

end Sys2Proof.Machine
end

