-- ==== Sys2Proof/Machine/Health.lean ====
section
/-! DEFINITION. Target counters and target health: what the Target Table does with a final outcome (R8, R9, R94 to R100). -/

namespace Sys2Proof.Machine

/-- The counter that an outcome increments (R8). -/
def TargetCounts.count (c : TargetCounts) : RecordStatus → TargetCounts
  | .ok => { c with completionsOk := count16 c.completionsOk }
  | .addrNack => { c with addrNacks := count16 c.addrNacks }
  | .dataNack => { c with dataNacks := count16 c.dataNacks }
  | .stretchTimeout => { c with stretchTimeouts := count16 c.stretchTimeouts }
  | .arbLost | .busStuck | .aborted | .cancelled | .quarantined => c

/-- The new Failure Count (R95). -/
def failuresAfter (status : RecordStatus) (f : Nat) : Nat :=
  match status with
  | .ok | .dataNack => 0
  | .addrNack | .stretchTimeout => countUp 15 f
  | .arbLost | .busStuck | .aborted | .cancelled | .quarantined => f

/-- The countdown that starts a quarantine: 2^k cycles, 0 without automatic probes (R97). -/
def Target.fullCountdown (t : Target) : Nat := if t.probeExponent = 0 then 0 else 2 ^ t.probeExponent.val

/-- The entry enters QUARANTINED (R97). -/
def Target.quarantine (t : Target) : Target :=
  { t with state := .quarantined
           countdown := t.fullCountdown
           counts := { t.counts with quarantineEntries := count16 t.counts.quarantineEntries } }

/-- The State of an ONLINE or SUSPECT entry after an outcome, F and the counters having been updated (R96). -/
def Target.moved (t : Target) (status : RecordStatus) : Target :=
  match status with
  | .ok | .dataNack => { t with state := .online }
  | .addrNack | .stretchTimeout =>
    if 0 < t.threshold.val ∧ t.threshold.val ≤ t.failures then t.quarantine else { t with state := .suspect }
  | .arbLost | .busStuck | .aborted | .cancelled | .quarantined => t

/-- The end of its own revival probe on a QUARANTINED entry, F and the counters having been updated (R100). -/
def Target.probed (t : Target) (status : RecordStatus) : Target :=
  match status with
  | .ok | .dataNack => { t with state := .online, countdown := 0 }
  | .addrNack | .stretchTimeout | .arbLost | .busStuck | .aborted | .cancelled | .quarantined =>
    { t with countdown := t.fullCountdown }

/-- A target entry after the final outcome of one of its transactions (R8, R95, R96, R100). -/
def Target.afterOutcome (t : Target) (isProbe : Bool) (status : RecordStatus) : Target :=
  let u : Target := { t with counts := t.counts.count status, failures := failuresAfter status t.failures }
  match t.state with
  | .free => t
  | .online | .suspect => u.moved status
  | .quarantined => if isProbe then u.probed status else u

/-- The TARGET_STATE notice of entry `t` (R104). -/
def targetNotice (t : Fin 32) (x : Target) : NoticeBody := .targetState t x.state x.failures

/-- A target entry is replaced, and a change of its State is posted (R104). -/
def changeTarget (t : Fin 32) (x : Target) (s : State) : State :=
  if (s.target t).state = x.state then s.setTarget t x else post (targetNotice t x) (s.setTarget t x)

/-- A lane is woken when a target of it has left QUARANTINED (R43). -/
def wakeIfRevived (before after : Target) (s : State) : State :=
  if before.state = .quarantined ∧ after.state ≠ .quarantined then wakeLane before.lane s else s

/-- The Target Table acts on a final outcome of target `t` (R55 step 1). -/
def targetOutcome (t : Fin 32) (isProbe : Bool) (status : RecordStatus) (s : State) : State :=
  wakeIfRevived (s.target t) ((s.target t).afterOutcome isProbe status)
    (changeTarget t ((s.target t).afterOutcome isProbe status) s)

/-- A revival probe of target `t` waits in the PROBE tier of a lane (R12). -/
def probePending (s : State) (t : Fin 32) : Bool := s.lanes.toList.any (fun l => l.probeTier.contains t)

/-- A revival probe of target `t` is running. -/
def probeRunning (s : State) (t : Fin 32) : Bool :=
  s.lanes.toList.any fun l => match l.txn with | some x => x.work == .probe && x.target == t | none => false

/-- A pending revival probe of target `t` is removed from its tier; the lane is told (R43). -/
def removeProbe (t : Fin 32) (s : State) : State :=
  let i := (s.target t).lane
  if (s.lane i).probeTier.contains t then
    wakeLane i (s.setLane i { s.lane i with probeTier := (s.lane i).probeTier.filter (· != t) })
  else s

/-- The countdown of an entry runs (R99): it is QUARANTINED with k from 1 to 7 and has no revival probe pending or
running. -/
def counting (s : State) (t : Fin 32) : Bool :=
  s.isQuarantined t && (s.target t).probeExponent != 0 && !probePending s t && !probeRunning s t

/-- A countdown of more than 1 goes down by one (R99). -/
def lowerCountdown (t : Fin 32) (s : State) : State :=
  s.setTarget t { s.target t with countdown := (s.target t).countdown - 1 }

/-- A countdown of 1 becomes 0 and a revival probe joins the tail of the PROBE tier of the target's lane (R99). -/
def queueProbe (t : Fin 32) (s : State) : State :=
  let x := s.target t
  wakeLane x.lane
    ((s.setTarget t { x with countdown := 0 }).setLane x.lane
      { s.lane x.lane with probeTier := (s.lane x.lane).probeTier ++ [t] })

end Sys2Proof.Machine
end

