-- ==== Sys2Proof/Machine/Report.lean ====
section
/-! DEFINITION. The Report Filter and the making of records: polls are filtered and merged (R113 to R118), alert reads
and jobs always become a record (R85, R70). -/

namespace Sys2Proof.Machine

/-! ### The decision (R113, R114) -/

/-- The signed 16-bit value of the first two bytes (R114). -/
def dataValue (order : ValueOrder) (data : List Byte) : Int :=
  match data, order with
  | a :: b :: _, .big => (a ++ b).toInt
  | a :: b :: _, .little => (b ++ a).toInt
  | _, _ => 0

/-- The change of value, without sign and in full (R114). -/
def valueChange (order : ValueOrder) (old new : List Byte) : Nat :=
  (dataValue order new - dataValue order old).natAbs

/-- An OK outcome with data `d` whose status equals an OK Last Status is reported (R113 step 2). -/
def dataReported (d : PollDef) (last new : List Byte) : Bool :=
  match d.mode with
  | .every => true
  | .change => new != last
  | .delta => decide (d.threshold ≤ valueChange d.order last new)

/-- The outcome is reported (R113). -/
def Poll.reports (p : Poll) (f : Final) : Bool :=
  p.defn.mode == .every || !p.snapshot.valid || f.status != p.snapshot.lastStatus
    || (f.status == .ok && dataReported p.defn p.snapshot.lastData f.data)

/-- The snapshot after a reported outcome (R115). -/
def Snapshot.write (n : Snapshot) (f : Final) : Snapshot :=
  ⟨true, f.status, if f.status = .ok then f.data else n.lastData⟩

/-- The Data of a record: the bytes read for OK, none otherwise (R111). -/
def Final.recordData (f : Final) : Option (List Byte) := if f.status = .ok then some f.data else none

/-! ### Poll completions -/

/-- The entry counts a Completion (R113). -/
def Poll.completed (p : Poll) : Poll := { p with counts := { p.counts with completions := count16 p.counts.completions } }

/-- The entry after a reported outcome has written its snapshot (R115). -/
def Poll.written (p : Poll) (f : Final) : Poll := { p with snapshot := p.snapshot.write f }

/-- A new POLL record at the tail, which the link of a keep-latest entry then names (R113, R117). The Reservation's
slot becomes the record's; its block becomes the record's for OK and is freed otherwise (R110, R108). -/
def newPollRecord (p : Fin 48) (x : Transaction) (f : Final) (s : State) : State :=
  let e := s.poll p
  let e' : Poll := { e with counts := { e.counts with records := count16 e.counts.records }
                            link := if e.defn.keepLatest then some s.records.length else e.link }
  releaseIf (f.status != .ok)
    (addRecord ⟨.poll p x.generation 0, x.target, s.cycle, f.status, f.recordData⟩ (s.setPoll p e'))

/-- Superseded counts one more, stopping at 255 (R118). -/
def RecordSource.supersede : RecordSource → RecordSource
  | .poll p g n => .poll p g (count8 n)
  | .alert l g n => .alert l g n
  | .job n tag k => .job n tag k

/-- A merge into the linked record `r` at place `k` (R118): the record keeps its place, its earlier block is freed,
the Reservation's block passes to it for OK and is freed otherwise, and the Reservation's slot is freed. -/
def mergePollRecord (p : Fin 48) (k : Nat) (r : Record) (f : Final) (s : State) : State :=
  let e := s.poll p
  let e' : Poll := { e with counts := { e.counts with superseded := count16 e.counts.superseded } }
  let r' : Record := { r with source := r.source.supersede
                              cycle := s.cycle
                              status := f.status
                              data := f.recordData }
  releaseIf (f.status != .ok) <| releaseIf r.data.isSome <|
    wakeAll { s.setPoll p e' with records := s.records.set k r' }

/-- The waiting record that the link of entry `p` names (R117). -/
def linkedRecord (s : State) (p : Fin 48) : Option (Nat × Record) :=
  match (s.poll p).defn.keepLatest, (s.poll p).link with
  | true, some k => (s.records[k]?).map fun r => (k, r)
  | _, _ => none

/-- A reported outcome: the snapshot is written, then the record is made or merged (R113, R117). -/
def reportPoll (p : Fin 48) (x : Transaction) (f : Final) (s : State) : State :=
  let s1 := s.setPoll p ((s.poll p).written f)
  match linkedRecord s1 p with
  | some (k, r) => mergePollRecord p k r f s1
  | none => newPollRecord p x f s1

/-- A poll completion (R113): counted, then reported or dropped (R116). -/
def pollCompletion (p : Fin 48) (x : Transaction) (f : Final) (s : State) : State :=
  let s1 := s.setPoll p (s.poll p).completed
  if (s1.poll p).reports f then reportPoll p x f s1 else releaseBlock s1

/-! ### Job completions (R70, R71) -/

/-- The Acknowledged Count of a JOB record (R70): for a WRITE, n for OK, the count of R51 for DATA_NACK. -/
def Job.acknowledged (j : Job) (f : Final) : Nat :=
  match j.kind, f.status with
  | .write, .ok => j.byteCount
  | .write, .dataNack => f.acked
  | _, _ => 0

/-- The JOB record of a job that ends with outcome `f` (R70). -/
def jobRecord (cycle : Word16) (j : Job) (f : Final) : Record :=
  ⟨.job j.number j.tag (j.acknowledged f), j.target, cycle, f.status,
    if j.kind = .read then f.recordData else none⟩

/-- A job ends without a transaction: cancelled, flushed, drained or settled (R71). Its record takes a free slot and
its Data Block is freed. -/
def endQueuedJob (j : Job) (status : RecordStatus) (s : State) : State :=
  releaseIf j.data.isSome (addRecord (jobRecord s.cycle j (Final.plain status)) s)

/-- A running job ends with outcome `f` (R70): its Data Block is freed, and the reserved block of a READ that did not
end OK. -/
def endRunningJob (j : Job) (f : Final) (s : State) : State :=
  releaseIf (j.kind == .read && f.status != .ok) <| releaseIf j.data.isSome
    (addRecord (jobRecord s.cycle j f) s)

/-! ### Alert lines: triggers and the end of a read -/

/-- The fields of a line that a trigger sets (R82). -/
def Line.triggered (l : Line) : Line :=
  { l with state := .pending, extraEdges := 0, followUp := false, triggers := count16 l.triggers }

/-- A trigger (R82): the line goes to PENDING and an alert read joins the tail of the ALERT tier of its lane. -/
def trigger (l : Fin 8) (s : State) : State :=
  let i := lineLane s l
  wakeLane i
    ((s.setLine l (s.line l).triggered).setLane i { s.lane i with alertTier := (s.lane i).alertTier ++ [l] })

/-- A line after the end of its read where no follow-up is queued (R85). -/
def Line.readEnded (l : Line) (op : OpState) : Line :=
  if l.closing then { l with state := .off, closing := false, followUp := false, extraEdges := 0 }
  else if op = .running then
    match l.mode with
    | .edge => { l with state := .armed, extraEdges := 0 }
    | .level => { l with state := .holdoff, extraEdges := 0 }
  else { l with state := .armed, followUp := false, extraEdges := 0 }

/-- The end of a line's read owes one more read (R85, second row). -/
def Line.owesRead (l : Line) (op : OpState) : Bool :=
  !l.closing && l.mode == .edge && l.followUp && op == .running

/-- The Alert Unit moves the line at the end of its read (R85). -/
def moveLine (l : Fin 8) (s : State) : State :=
  if (s.line l).owesRead s.op then trigger l s else s.setLine l ((s.line l).readEnded s.op)

/-- The ALERT record of a line's read (R85). -/
def alertRecord (s : State) (l : Fin 8) (generation : Byte) (target : Fin 32) (f : Final) : Record :=
  ⟨.alert l generation (s.line l).extraEdges, target, s.cycle, f.status, f.recordData⟩

/-- An alert read writes the snapshot of the bound poll unless its status is ABORTED or the entry was deleted or
redefined since the read started (R85). -/
def alertSnapshot (l : Fin 8) (x : Transaction) (f : Final) (s : State) : State :=
  if f.status = .aborted ∨ x.definitionGone then s
  else s.setPoll (s.line l).boundPoll ((s.poll (s.line l).boundPoll).written f)

/-- The end of a running alert read (R85): its record in the reserved slot, the snapshot, the line's next state. -/
def endAlertRead (l : Fin 8) (x : Transaction) (f : Final) (s : State) : State :=
  releaseIf (f.status != .ok) <| moveLine l <| alertSnapshot l x f <|
    addRecord (alertRecord s l x.generation x.target f) s

/-- An alert read settled at zero cost with status QUARANTINED (R44, R85): a record with the bound poll's Generation,
no snapshot, and the line moves. -/
def settleAlert (l : Fin 8) (s : State) : State :=
  let e := s.poll (s.line l).boundPoll
  moveLine l (addRecord (alertRecord s l e.generation e.defn.target (Final.plain .quarantined)) s)

end Sys2Proof.Machine
end

