-- ==== Sys2Proof/Machine/Schedule.lean ====
section
/-! DEFINITION. The Poll Scheduler's admission and the cycle start (R14, R15, R29 to R33, R40, R56, R86, R99). -/

namespace Sys2Proof.Machine

/-! ### Due polls and admission (R30, R32) -/

/-- A poll entry is due at the start of cycle `c` (R30). -/
def Poll.due (p : Poll) (c : Word16) : Bool :=
  p.state == .active && c.toNat % 2 ^ p.defn.periodExponent.val == p.defn.phase

/-- The due polls of lane `i` in ascending order of period, then of poll number (R32). -/
def duePolls (s : State) (i : Fin 4) : List (Fin 48) :=
  let due := (List.finRange 48).filter fun p => (s.poll p).due s.cycle && pollLane s p == i
  (List.finRange 8).flatMap fun e => due.filter fun p => (s.poll p).defn.periodExponent == e

/-- What admission decides for a due poll: admitted, or missed with a reason. -/
inductive Verdict where
  | admitted
  | missed (reason : MissReason)
  deriving DecidableEq, Repr

/-- Due polls of a lane that is IDLE or BUSY, taken in order with the admitted total so far (R32). -/
def admitPolls (s : State) (budget : Nat) : List (Fin 48) → Nat → List (Fin 48 × Verdict)
  | [], _ => []
  | p :: rest, total =>
    if s.isQuarantined (s.poll p).defn.target then
      (p, .missed .quarantined) :: admitPolls s budget rest total
    else if total + pollCost s p ≤ budget then
      (p, .admitted) :: admitPolls s budget rest (total + pollCost s p)
    else (p, .missed .shed) :: admitPolls s budget rest total

/-- Admission on lane `i` (R32). -/
def laneAdmission (s : State) (i : Fin 4) : List (Fin 48 × Verdict) :=
  match (s.lane i).state with
  | .idle | .busy => admitPolls s (s.lane i).budget (duePolls s i) 0
  | .off | .recovering | .faulted => (duePolls s i).map fun p => (p, .missed .laneDown)

/-- The polls admitted. -/
def admittedOf (vs : List (Fin 48 × Verdict)) : List (Fin 48) :=
  vs.filterMap fun v => match v.2 with | .admitted => some v.1 | .missed _ => none

/-- The misses counted at a cycle start on lane `i`: the LATE step (R31), then admission (R32). -/
def cycleMisses (s : State) (i : Fin 4) : List (Fin 48 × MissReason) :=
  (s.lane i).workList.map (fun p => (p, MissReason.late)) ++
    (laneAdmission s i).filterMap fun v => match v.2 with | .admitted => none | .missed r => some (v.1, r)

/-- A miss is counted at its poll entry (R33). -/
def countMiss (s : State) (m : Fin 48 × MissReason) : State :=
  let e := s.poll m.1
  s.setPoll m.1 { e with counts := { e.counts with misses := e.counts.misses.count m.2 } }

/-- The misses of a list, by reason. -/
def missTotals (ms : List (Fin 48 × MissReason)) : Misses :=
  ms.foldl (fun t m => t.count m.2) Misses.zero

/-! ### The parts of a cycle start (R15) -/

/-- A lane at a cycle start: its new work list, R set to C, the tiers reopened, a slip counted if it is BUSY
(R29, R40, R56). -/
def Lane.atCycleStart (l : Lane) (workList : List (Fin 48)) : Lane :=
  { l with workList := workList
           remaining := l.capacity
           closed := .open
           counts := if l.state = .busy then { l.counts with slips := count16 l.counts.slips } else l.counts }

/-- What lane `i` posts at a cycle start: its misses if there are any (R33), and a slip if it is BUSY (R56). -/
def cyclePostings (s : State) (i : Fin 4) : List NoticeBody :=
  (if (cycleMisses s i).isEmpty then [] else [.laneLoad i (missTotals (cycleMisses s i)) 0]) ++
    (if (s.lane i).state = .busy then [.laneLoad i .zero 1] else [])

/-- The Poll Scheduler and the Lane Engines at a cycle start, from the state as it stands when the cycle starts
(R15, R31, R32, R40, R56). -/
def scheduleCycle (s : State) : State :=
  let counted := ((List.finRange 4).flatMap (cycleMisses s)).foldl countMiss s
  { counted with lanes := Table.ofFn fun i => (s.lane i).atCycleStart (admittedOf (laneAdmission s i)) }

/-- The postings of a cycle start, the lanes in a free order (R125, notes/assumptions/8.md). -/
def postCycle (picks : List Nat) (before s : State) : State :=
  let groups := ((List.finRange 4).map (cyclePostings before)).filter fun g => !g.isEmpty
  ((reorder picks groups).flatten).foldl (fun t b => post b t) s

/-- A line in HOLDOFF that is inactive at a cycle start goes to ARMED (R86). -/
def armLine (s : State) (l : Fin 8) : State := s.setLine l { s.line l with state := .armed }

/-- The lines in HOLDOFF with the given Filtered Level. -/
def holdoffLines (s : State) (active : Bool) : List (Fin 8) :=
  (List.finRange 8).filter fun l => (s.line l).state == .holdoff && (s.line l).level == active

/-- Every line in HOLDOFF leaves it (R86): an inactive line goes to ARMED, an active line triggers, the triggers in a
free order (notes/assumptions/8.md). -/
def leaveHoldoffs (picks : List Nat) (s : State) : State :=
  (reorder picks (holdoffLines s true)).foldl (fun t l => trigger l t) ((holdoffLines s false).foldl armLine s)

/-- The entries on which the countdown of R99 acts, and whose countdown is 1 or is more than 1. -/
def countingTargets (s : State) (one : Bool) : List (Fin 32) :=
  (List.finRange 32).filter fun t =>
    counting s t && (if one then (s.target t).countdown == 1 else decide (1 < (s.target t).countdown))

/-- The probe countdowns at a cycle start (R99), the probes queued in a free order (notes/assumptions/8.md). -/
def countDowns (picks : List Nat) (s : State) : State :=
  (reorder picks (countingTargets s true)).foldl (fun u t => queueProbe t u)
    ((countingTargets s false).foldl (fun u t => lowerCountdown t u) s)

/-- A choice is drawn and used. -/
def withChoice (f : List Nat → State → State) (s : State) : State := f s.choice s.afterChoice

/-- A cycle starts with number `c` (R14, R15): admission, capacity and slips, HOLDOFF exits, probe countdowns, and
every lane looks for work (R43). -/
def startCycle (c : Word16) (s : State) : State :=
  let s0 : State := { s with cycle := c }
  wakeAll <| withChoice countDowns <| withChoice leaveHoldoffs <|
    withChoice (fun picks => postCycle picks s0) (scheduleCycle s0)

/-- CYCLE_START (R14, R15): the cycle timer expires; cycles start in RUNNING only. -/
def execCycleStart (s : State) : Host.Outcome State Fault Refusal :=
  if s.op = .running then finish (startCycle (s.cycle + 1) s) else .next s

/-! ### Work lists and running transactions of an entry -/

/-- An entry leaves the work list of a lane. -/
def Lane.dropPoll (l : Lane) (p : Fin 48) : Lane := { l with workList := l.workList.filter (· != p) }

/-- An entry is removed without a miss from the work list it stands on (R24, R26, R27); that lane is told (R43). -/
def unlistPoll (p : Fin 48) (s : State) : State :=
  (List.finRange 4).foldl
    (fun t i => if (t.lane i).workList.contains p then wakeLane i (t.setLane i ((t.lane i).dropPoll p)) else t) s

/-- The running transaction of a lane when the definition of entry `p` ends: a scheduled transaction of the entry is
marked discarded (R25), an alert read of it keeps its definition and will not write the snapshot (R25, R85). -/
def Transaction.definitionEnds (x : Transaction) (p : Fin 48) (boundPoll : Fin 8 → Fin 48) : Transaction :=
  match x.work with
  | .poll q => if q = p then { x with discarded := true } else x
  | .alert l => if boundPoll l = p then { x with definitionGone := true } else x
  | .job _ | .probe => x

/-- Every running transaction that uses the entry's definition is marked (R25). -/
def markDefinitionEnd (p : Fin 48) (s : State) : State :=
  { s with lanes := s.lanes.map fun l =>
      { l with txn := l.txn.map fun x => x.definitionEnds p fun a => (s.line a).boundPoll } }

end Sys2Proof.Machine
end

