-- ==== Sys2Proof/Machine/Lanes.lean ====
section
/-! DEFINITION. The Lane Engine: looking for work, the start, the retries and the end of transactions, recovery and
faults (R42 to R59). -/

namespace Sys2Proof.Machine

/-! ### Looking for work (R44 to R47) -/

/-- What examining a tier came to: a transaction was started, a head was settled and the lane goes on from the top, or
the lane examines the next tier. -/
inductive Look where
  | started (s : State)
  | settled (s : State)
  | passed (s : State)
  deriving DecidableEq, Repr

/-- The next tier is examined when this one was passed. -/
def Look.next (r : Look) (examine : State → Look) : Look :=
  match r with
  | .started s => .started s
  | .settled s => .settled s
  | .passed s => examine s

/-- The result space a head needs is free (R46): a record slot, and a pool block where data will be read. -/
def hasSpace (r : Reservation) (s : State) : Bool :=
  match r with
  | .none => true
  | .slot => s.slotFree
  | .slotAndBlock => s.slotFree && decide (0 < s.pool.free)

/-- The Reservation a transaction takes (R46, R109). -/
def reservationFor (work : Work) (op : Operation) : Reservation :=
  match work, op with
  | .probe, _ => .none
  | _, .read => .slotAndBlock
  | _, .write => .slot
  | _, .probe => .slot

/-- The Current Transaction of a head that starts (R47), with the segments of its first attempt (R50). -/
def newTransaction (s : State) (work : Work) (generation : Byte) (target : Fin 32) (op : Operation)
    (register : Word16) (n : Nat) (data : List Byte) : Transaction where
  work := work
  generation := generation
  target := target
  op := op
  register := register
  byteCount := n
  attempt := 1
  cost := costOf op (s.target target).width.val n
  charged := costOf op (s.target target).width.val n
  discarded := false
  definitionGone := false
  segments := segmentsOf (s.target target) op register n data

/-- The lane when the transaction `x` starts, its head having left its tier (R47). -/
def Lane.begin (l : Lane) (x : Transaction) : Lane :=
  { l with remaining := l.remaining - x.cost
           reservation := reservationFor x.work x.op
           state := .busy
           txn := some x
           counts := { l.counts with transactions := count16 l.counts.transactions } }

/-- The start of a transaction on lane `i` (R47): R is charged and the Reservation taken. -/
def startTransaction (i : Fin 4) (x : Transaction) (s : State) : State :=
  let s1 := s.setLane i ((s.lane i).begin x)
  if reservationFor x.work x.op = .slotAndBlock then claimBlock s1 else s1

/-- A head that the quarantine of its target does not settle (R45, R46): it closes its tier when its cost exceeds R,
is passed over when its space is missing, and is started otherwise. -/
def examineHead (i : Fin 4) (x : Transaction) (close start : State → State) (s : State) : Look :=
  if (s.lane i).remaining < x.cost then .passed (close s)
  else if hasSpace (reservationFor x.work x.op) s then .started (startTransaction i x (start s))
  else .passed s

/-- The PROBE tier (R42, R100). -/
def lookProbe (i : Fin 4) (s : State) : Look :=
  match (s.lane i).closed.probe, (s.lane i).probeTier with
  | false, t :: rest =>
    examineHead i (newTransaction s .probe 0 t .probe 0 0 [])
      (fun u => u.setLane i { u.lane i with closed := { (u.lane i).closed with probe := true } })
      (fun u => u.setLane i { u.lane i with probeTier := rest }) s
  | _, _ => .passed s

/-- The line whose read starts goes to RUNNING (R47, R84). -/
def startLine (l : Fin 8) (s : State) : State := s.setLine l { s.line l with state := .running }

/-- The ALERT tier (R42, R44, R84): the bound poll's definition as it stands at this moment. -/
def lookAlert (i : Fin 4) (s : State) : Look :=
  match (s.lane i).closed.alert, (s.lane i).alertTier with
  | false, l :: rest =>
    let e := s.poll (s.line l).boundPoll
    if s.isQuarantined e.defn.target then
      if s.slotFree then .settled (settleAlert l (s.setLane i { s.lane i with alertTier := rest })) else .passed s
    else
      examineHead i (newTransaction s (.alert l) e.generation e.defn.target .read e.defn.register e.defn.byteCount [])
        (fun u => u.setLane i { u.lane i with closed := { (u.lane i).closed with alert := true } })
        (fun u => startLine l (u.setLane i { u.lane i with alertTier := rest })) s
  | _, _ => .passed s

/-- Head polls whose target is QUARANTINED are removed one after the other, each with a QUARANTINED miss counted and
posted (R44, R33). The list is the work list of lane `i`. -/
def skipQuarantined (i : Fin 4) : List (Fin 48) → State → State
  | [], s => s
  | p :: rest, s =>
    if s.isQuarantined (s.poll p).defn.target then
      skipQuarantined i rest
        (post (.laneLoad i ⟨0, 0, 1, 0⟩ 0)
          (countMiss (s.setLane i { s.lane i with workList := rest }) (p, .quarantined)))
    else s

/-- The head poll of the SCHEDULE tier, its target not QUARANTINED. -/
def lookPoll (i : Fin 4) (s : State) : Look :=
  match (s.lane i).workList with
  | p :: rest =>
    let e := s.poll p
    examineHead i (newTransaction s (.poll p) e.generation e.defn.target .read e.defn.register e.defn.byteCount [])
      (fun u => u.setLane i { u.lane i with closed := { (u.lane i).closed with schedule := true } })
      (fun u => u.setLane i { u.lane i with workList := rest }) s
  | [] => .passed s

/-- The SCHEDULE tier (R42, R44). -/
def lookSchedule (i : Fin 4) (s : State) : Look :=
  if (s.lane i).closed.schedule then .passed s else lookPoll i (skipQuarantined i (s.lane i).workList s)

/-- The JOB tier (R42, R44, R69). -/
def lookJob (i : Fin 4) (s : State) : Look :=
  match (s.lane i).closed.job, (s.lane i).jobs with
  | false, j :: rest =>
    if s.isQuarantined j.target then
      if s.slotFree then .settled (endQueuedJob j .quarantined (s.setLane i { s.lane i with jobs := rest }))
      else .passed s
    else
      examineHead i (newTransaction s (.job j) 0 j.target j.kind j.register j.byteCount (j.data.getD []))
        (fun u => u.setLane i { u.lane i with closed := { (u.lane i).closed with job := true } })
        (fun u => u.setLane i { u.lane i with jobs := rest }) s
  | _, _ => .passed s

/-- One pass through the tiers from the top (R42, R44). -/
def lookOnce (i : Fin 4) (s : State) : Look :=
  (((lookProbe i s).next (lookAlert i)).next (lookSchedule i)).next (lookJob i)

/-- Passes until a transaction starts or nothing can (R44); `fuel` bounds the settlements. -/
def lookPasses (i : Fin 4) : Nat → State → State
  | 0, s => s
  | fuel + 1, s =>
    match lookOnce i s with
    | .started t => t
    | .settled t => lookPasses i fuel t
    | .passed t => t

/-- More passes than one look can need: every settlement takes a job or an alert read from its tier, and each of the
eight lines can put one follow-up read back (R85). -/
def lookFuel (l : Lane) : Nat := l.jobs.length + l.alertTier.length + 9

/-- Lane `i` looks for work (R43 to R47). -/
def look (i : Fin 4) (s : State) : State :=
  let t := lookPasses i (lookFuel (s.lane i)) s
  t.setLane i { t.lane i with lookOwed := false }

/-- LOOK_FOR_WORK (R43): an IDLE lane in RUNNING that a happening of R43 has reached. -/
def execLookForWork (i : Fin 4) (s : State) : Host.Outcome State Fault Refusal :=
  if (s.lane i).state = .idle ∧ s.op = .running ∧ (s.lane i).lookOwed = true then finish (look i s) else .next s

/-! ### The end of a transaction (R55) -/

/-- The lane enters RECOVERING (R57); `fromFault` says that it leaves FAULTED (R59). -/
def Lane.recover (l : Lane) (fromFault : Bool) : Lane :=
  { l with state := .recovering
           fromFault := fromFault
           counts := { l.counts with recoveries := count16 l.counts.recoveries } }

/-- The lane when its transaction ends (R55 step 3). -/
def Lane.endTxn (l : Lane) (status : RecordStatus) : Lane :=
  let l1 : Lane := { l with txn := none, reservation := .none }
  if status.needsRecovery then l1.recover false else { l1 with state := .idle }

/-- The report path of an ended transaction (R55 step 2, R110). -/
def reportOutcome (x : Transaction) (held : Reservation) (f : Final) (s : State) : State :=
  match x.work with
  | .poll p =>
    if x.discarded = true ∨ f.status = .aborted then releaseReservation held s else pollCompletion p x f s
  | .alert l => endAlertRead l x f s
  | .job j => endRunningJob j f s
  | .probe => s

/-- The transaction of lane `i` ends with the final outcome `f` (R55): lane state, target health, report path, and an
IDLE lane looks for work. -/
def endTransaction (i : Fin 4) (f : Final) (s : State) : State :=
  match (s.lane i).txn with
  | none => s
  | some x =>
    wakeLane i <| reportOutcome x (s.lane i).reservation f <|
      targetOutcome x.target (x.work == .probe) f.status <| s.setLane i ((s.lane i).endTxn f.status)

/-- The end of a transaction as a whole step: the end of DRAINING is checked (R156) and the arbiter looks (R136). -/
def endStep (i : Fin 4) (f : Final) (s : State) : Host.Outcome State Fault Refusal :=
  finish (finishDrain [] (endTransaction i f s))

/-- An event of a BUSY lane with its transaction `k`; on any other lane it is no happening of the part
(notes/assumptions/6.md). -/
def onTransaction (i : Fin 4) (s : State) (k : Transaction → Host.Outcome State Fault Refusal) :
    Host.Outcome State Fault Refusal :=
  match (s.lane i).state, (s.lane i).txn with
  | .busy, some x => k x
  | _, _ => .next s

/-- TRANSACTION_END (R55) with what the bus brought; a result that the transaction cannot have is no happening. -/
def execTransactionEnd (i : Fin 4) (result : BusResult) (s : State) : Host.Outcome State Fault Refusal :=
  onTransaction i s fun x =>
    match finalOf x result with
    | some f => endStep i f s
    | none => .next s

/-- An attempt ended ADDR_NACK is retried (R54): retries remain and the cost does not exceed R; a revival probe is
not retried. -/
def mayRetry (s : State) (i : Fin 4) (x : Transaction) : Bool :=
  x.work != .probe && decide (x.attempt - 1 < (s.target x.target).retryLimit.val)
    && decide (x.cost ≤ (s.lane i).remaining)

/-- The data bytes that the transaction writes. -/
def Transaction.writeData (x : Transaction) : List Byte :=
  match x.work with
  | .job j => j.data.getD []
  | .poll _ | .alert _ | .probe => []

/-- The next attempt of a transaction (R54, R2). -/
def Transaction.retried (x : Transaction) (t : Target) : Transaction :=
  { x with attempt := x.attempt + 1
           charged := x.charged + x.cost
           segments := segmentsOf t x.op x.register x.byteCount x.writeData }

/-- The lane begins a retry (R54). -/
def Lane.retry (l : Lane) (x : Transaction) (t : Target) : Lane :=
  { l with remaining := l.remaining - x.cost
           txn := some (x.retried t)
           counts := { l.counts with retries := count16 l.counts.retries } }

/-- ATTEMPT_ADDR_NACK (R54): the attempt is retried, or the transaction ends ADDR_NACK. -/
def execAttemptAddrNack (i : Fin 4) (s : State) : Host.Outcome State Fault Refusal :=
  onTransaction i s fun x =>
    if mayRetry s i x then finish (s.setLane i ((s.lane i).retry x (s.target x.target)))
    else endStep i (Final.plain .addrNack) s

/-- STRETCH_TIMEOUT (R52). -/
def execStretchTimeout (i : Fin 4) (s : State) : Host.Outcome State Fault Refusal :=
  onTransaction i s fun _ =>
    let l := s.lane i
    endStep i (Final.plain .stretchTimeout)
      (s.setLane i { l with counts := { l.counts with stretchTimeouts := count16 l.counts.stretchTimeouts } })

/-- BUS_STUCK (R49). -/
def execBusStuck (i : Fin 4) (s : State) : Host.Outcome State Fault Refusal :=
  onTransaction i s fun _ => endStep i (Final.plain .busStuck) s

/-- ARB_LOST (R53). -/
def execArbLost (i : Fin 4) (s : State) : Host.Outcome State Fault Refusal :=
  onTransaction i s fun _ =>
    let l := s.lane i
    endStep i (Final.plain .arbLost)
      (s.setLane i { l with counts := { l.counts with arbLosses := count16 l.counts.arbLosses } })

/-! ### Recovery (R57, R59, R61) -/

/-- The replies of the LANE_RESET commands that wait on lane `i`, in the order they were taken (R61). -/
def resetReplies (i : Fin 4) (tags : List Byte) (state : LaneState) : List Reply :=
  tags.map fun tag => okReply tag 0x0E [byte i.val, state.code]

/-- The recovery procedure ends in IDLE (R57 step 3); a recovery out of FAULTED posts a notice (R59). -/
def recoveredIdle (i : Fin 4) (s : State) : State :=
  let l := s.lane i
  let s1 := s.setLane i { l with state := .idle, waitingResets := [], fromFault := false }
  wakeLane i (if l.fromFault then post (.laneState i .idle .recovered) s1 else s1)

/-- The recovery procedure ends in FAULTED (R57, R59). -/
def faultLane (i : Fin 4) (cause : FaultCause) (posted : LaneCause) (s : State) : State :=
  let l := s.lane i
  post (.laneState i .faulted posted)
    (s.setLane i { l with state := .faulted
                          lastFault := cause
                          waitingResets := []
                          fromFault := false
                          counts := { l.counts with faults := count16 l.counts.faults } })

/-- The end of the recovery procedure of lane `i` in `state` (R57, R61): every waiting LANE_RESET reply becomes ready,
the end of DRAINING is checked (R156). -/
def recoveryStep (i : Fin 4) (state : LaneState) (ended s : State) : Host.Outcome State Fault Refusal :=
  finish (finishDrain (resetReplies i (s.lane i).waitingResets state) ended)

/-- RECOVERY_END (R57): IDLE after STOP, or FAULTED with SDA_HELD after the twelfth pulse. -/
def execRecoveryEnd (i : Fin 4) (result : RecoveryResult) (s : State) : Host.Outcome State Fault Refusal :=
  if (s.lane i).state = .recovering then
    match result with
    | .busFree => recoveryStep i .idle (recoveredIdle i s) s
    | .sdaHeld => recoveryStep i .faulted (faultLane i .sdaHeld .faultSdaHeld s) s
  else .next s

/-- RECOVERY_SCL_TIMEOUT (R57): SCL still low at 25 ms, FAULTED with SCL_HELD. -/
def execRecoverySclTimeout (i : Fin 4) (s : State) : Host.Outcome State Fault Refusal :=
  if (s.lane i).state = .recovering then
    recoveryStep i .faulted (faultLane i .sclHeld .faultSclHeld s) s
  else .next s

end Sys2Proof.Machine
end

