-- ==== Sys2Proof/Machine/Operands.lean ====
section
/-! DEFINITION. Decoding of the fields of command bodies: every operand form of the host commands (R159, 12.4, 12.6).
A byte outside its field's range or codes decodes to none, which the commands answer with BAD_VALUE. -/

namespace Sys2Proof.Machine

/-- A number of an entry or a small quantity, 0 to `n - 1` (R159). -/
def indexField (n : Nat) (b : Byte) : Option (Fin n) :=
  if h : b.toNat < n then some ⟨b.toNat, h⟩ else none

/-- A quantity within inclusive bounds (R159). -/
def rangeField (lo hi : Nat) (b : Byte) : Option Nat :=
  if lo ≤ b.toNat ∧ b.toNat ≤ hi then some b.toNat else none

/-- A two-byte quantity, high byte first (R159). -/
def wordField (hi lo : Byte) : Nat := hi.toNat * 256 + lo.toNat

/-- A register address, high byte first (12.4). -/
def registerField (hi lo : Byte) : Word16 := hi ++ lo

/-- A yes/no field (R159). -/
def yesNoField (b : Byte) : Option Bool :=
  if b = 0x00 then some false else if b = 0x01 then some true else none

/-- Bus Address, 08h to 77h (R3). -/
def busAddressField (b : Byte) : Option (BitVec 7) :=
  if 0x08 ≤ b.toNat ∧ b.toNat ≤ 0x77 then some (b.setWidth 7) else none

/-- Speed in kbit/s: 0064h, 0190h or 03E8h (12.4). -/
def speedField (hi lo : Byte) : Option Speed :=
  if wordField hi lo = 100 then some .s100
  else if wordField hi lo = 400 then some .s400
  else if wordField hi lo = 1000 then some .s1000
  else none

/-- Report Mode (12.6). -/
def reportModeField (b : Byte) : Option ReportMode :=
  if b = 0x00 then some .every else if b = 0x01 then some .change else if b = 0x02 then some .delta else none

/-- Value Order (12.6). -/
def valueOrderField (b : Byte) : Option ValueOrder :=
  if b = 0x00 then some .big else if b = 0x01 then some .little else none

/-- Initial State of a poll: ACTIVE or PAUSED only (12.6). -/
def initialStateField (b : Byte) : Option PollState :=
  if b = 0x01 then some .active else if b = 0x02 then some .paused else none

/-- Job Kind (12.6). -/
def jobKindField (b : Byte) : Option Operation :=
  if b = 0x00 then some .read else if b = 0x01 then some .write else if b = 0x02 then some .probe else none

/-- Polarity (12.6). -/
def polarityField (b : Byte) : Option Polarity :=
  if b = 0x00 then some .low else if b = 0x01 then some .high else none

/-- Mode of an alert line (12.6). -/
def alertModeField (b : Byte) : Option AlertMode :=
  if b = 0x00 then some .edge else if b = 0x01 then some .level else none

/-- Class of CLEAR_COUNTERS (12.6). -/
def classField (b : Byte) : Option CounterClass :=
  if b = 0x00 then some .all else if b = 0x01 then some .target else if b = 0x02 then some .poll
  else if b = 0x03 then some .lane else if b = 0x04 then some .alert else if b = 0x05 then some .result
  else if b = 0x06 then some .host else none

/-- Threshold of a poll: 1 to 32767 in DELTA mode, 0 and not checked in the others (R19, R23, R24). -/
def thresholdField (mode : ReportMode) (hi lo : Byte) : Option Nat :=
  match mode with
  | .delta => if 1 ≤ wordField hi lo ∧ wordField hi lo ≤ 32767 then some (wordField hi lo) else none
  | .every | .change => some 0

/-- Value Order of a poll: checked in DELTA mode, BIG in the others (R23, R24). -/
def orderField (mode : ReportMode) (b : Byte) : Option ValueOrder :=
  match mode with
  | .delta => valueOrderField b
  | .every | .change => some .big

/-- Byte Count of a poll: 1 to 32, at least 2 in DELTA mode (R23). -/
def pollCountField (mode : ReportMode) (b : Byte) : Option Nat :=
  match mode with
  | .delta => rangeField 2 32 b
  | .every | .change => rangeField 1 32 b

/-- Byte Count of a job: READ 1 to 32, WRITE 0 to 32, not checked and stored as 0 for PROBE (R67). -/
def jobCountField (kind : Operation) (b : Byte) : Option Nat :=
  match kind with
  | .read => rangeField 1 32 b
  | .write => rangeField 0 32 b
  | .probe => some 0

/-- A Register fits a target's Register Width: 0 to 65535 for width 2, 0 to 255 for width 1, 0 for width 0
(R23, R67). -/
def registerFits (width : Fin 3) (register : Word16) : Bool :=
  match width with
  | 0 => register.toNat == 0
  | 1 => decide (register.toNat < 256)
  | 2 => true

end Sys2Proof.Machine
end

