-- ==== Sys2Proof/Machine/Admission.lean ====
section
/-! DEFINITION. The Command Decoder's admission of a good frame (R133, R134), the legality of commands (R144) and the
form every host command has. -/

namespace Sys2Proof.Machine

/-- The refusal list: the refusals among the ready replies (R134, R135). -/
def State.refusals (s : State) : List Reply := s.ready.filter fun r => r.origin == .refusal

/-- A host error is counted and posted (R131, R134): `one` carries a count of 1 for its kind. -/
def hostError (count : HostErrors → HostErrors) (one : HostErrors) (s : State) : State :=
  post (.hostErrors one) { s with errors := count s.errors }

/-- A GAP error (R131). -/
def gapError (s : State) : State := hostError (fun e => { e with gap := count16 e.gap }) ⟨1, 0, 0, 0⟩ s

/-- A LENGTH error (R131). -/
def lengthError (s : State) : State := hostError (fun e => { e with length := count16 e.length }) ⟨0, 1, 0, 0⟩ s

/-- A CHECK error (R131). -/
def checkError (s : State) : State := hostError (fun e => { e with check := count16 e.check }) ⟨0, 0, 1, 0⟩ s

/-- A frame that needs a refusal while the refusal list is full is discarded (R134). -/
def overrun (s : State) : State := hostError (fun e => { e with overrun := count16 e.overrun }) ⟨0, 0, 0, 1⟩ s

/-- A frame that is not admitted (R134). -/
def refuse (kind tag : Byte) (status : ReplyStatus) (s : State) : State :=
  if s.refusals.length < Config.refusalPlaces then makeReady ⟨.refusal, replyKind kind, tag, [status.code]⟩ s
  else overrun s

/-- The three checks of admission in their order (R133); an admitted frame's tag joins the in-flight tag set and the
command is decoded and acted on in the same happening (R142). -/
def admission (kind tag : Byte) (effect : State → State) (s : State) : State :=
  if tag = 0 then refuse kind tag .badTag s
  else if s.inFlight.contains tag then refuse kind tag .tagInUse s
  else if Config.inFlightTags ≤ s.inFlight.length then refuse kind tag .full s
  else effect { s with inFlight := s.inFlight ++ [tag] }

/-- A host command: the receiver hands over a good frame and returns to HUNT (R130), the frame is admitted or refused,
and the arbiter looks (R136). While the receiver is off no frame is handed over (R141, R157). -/
def hostCommand (kind tag : Byte) (effect : State → State) (s : State) : Host.Outcome State Fault Refusal :=
  if s.receiver.on then finish (admission kind tag effect { s with receiver := Receiver.hunting true }) else .next s

/-- Legal in STANDBY, RUNNING and DRAINING (R144). -/
def OpState.legalAlways (op : OpState) : Bool := op != .init

/-- Legal in STANDBY only (R144): START, SET_CYCLE, SET_LANE. -/
def OpState.legalInStandby (op : OpState) : Bool := op == .standby

/-- Legal in RUNNING only (R144): STOP, SUBMIT. -/
def OpState.legalInRunning (op : OpState) : Bool := op == .running

/-- The result of validating a command (R143): its decoded operands, or the status of the first failing check. -/
abbrev Checked (α : Type) := Except ReplyStatus α

/-- The BODY of a command without fields (R143 steps 1 and 2). -/
def checkEmpty (legal : OpState → Bool) (body : List Byte) (s : State) : Checked Unit :=
  if body.length ≠ 0 then .error .badLength else if legal s.op then .ok () else .error .wrongState

/-- The BODY of a command with one number of a table of `n` entries (R143 steps 1 to 3). -/
def checkIndex (n : Nat) (body : List Byte) (s : State) : Checked (Fin n) :=
  match body with
  | [b] =>
    if s.op.legalAlways then
      match indexField n b with
      | some i => .ok i
      | none => .error .badValue
    else .error .wrongState
  | _ => .error .badLength

/-- A checked command: denied with the status of the first failing check, or carried out (R142, R143). -/
def carryOut {α : Type} (tag kind : Byte) (checked : Checked α) (effect : α → State → State) (s : State) : State :=
  match checked with
  | .error status => deny tag kind status s
  | .ok a => effect a s

end Sys2Proof.Machine
end

