-- ==== Sys2Proof/Machine/TargetCommands.lean ====
section
/-! DEFINITION. BIND_TARGET, UNBIND_TARGET, READ_TARGET and SET_TARGET_STATE (R3 to R12, R101, R102). -/

namespace Sys2Proof.Machine

/-! ### BIND_TARGET (R3, R4) -/

/-- The entry that accepted binding settings make: ONLINE, F, countdown and counters 0 (R4). -/
def boundTarget (lane : Fin 4) (address : BitVec 7) (width : Fin 3) (retry : Fin 4) (threshold : Fin 16)
    (probe : Fin 8) : Target :=
  ⟨.online, lane, address, width, retry, threshold, probe, 0, 0, .zero⟩

/-- Another bound entry holds the same Lane and Bus Address (R3 check 5). -/
def addressTaken (s : State) (lane : Fin 4) (address : BitVec 7) : Bool :=
  s.targets.toList.any fun t => t.state != .free && t.lane == lane && t.busAddress == address

/-- The checks of BIND_TARGET (R3). -/
def checkBindTarget (body : List Byte) (s : State) : Checked (Fin 32 × Target) :=
  match body with
  | [t, lane, address, width, retry, threshold, probe] =>
    if s.op.legalAlways then
      match indexField 32 t, indexField 4 lane, busAddressField address, indexField 3 width, indexField 4 retry,
          indexField 16 threshold, indexField 8 probe with
      | some t, some lane, some address, some width, some retry, some threshold, some probe =>
        if (s.target t).state ≠ .free then .error .inUse
        else if addressTaken s lane address then .error .conflict
        else .ok (t, boundTarget lane address width retry threshold probe)
      | _, _, _, _, _, _, _ => .error .badValue
    else .error .wrongState
  | _ => .error .badLength

/-- An accepted BIND_TARGET (R4). -/
def bindTarget (tag : Byte) (t : Fin 32) (x : Target) (s : State) : State :=
  answer tag 0x0F [byte t.val] (changeTarget t x s)

/-- BIND_TARGET, admitted. -/
def runBindTarget (tag : Byte) (body : List Byte) (s : State) : State :=
  carryOut tag 0x0F (checkBindTarget body s) (fun a => bindTarget tag a.1 a.2) s

/-- BIND_TARGET (R3, R4). -/
def execBindTarget (tag : Byte) (body : List Byte) (s : State) : Host.Outcome State Fault Refusal :=
  hostCommand 0x0F tag (runBindTarget tag body) s

/-! ### UNBIND_TARGET (R5, R6) -/

/-- Poll entries in ACTIVE or PAUSED whose Target is `t` (R5, R12). -/
def pollRefs (s : State) (t : Fin 32) : Nat :=
  s.polls.toList.countP fun p => p.state != .free && p.defn.target == t

/-- Queued jobs for target `t` (R5, R12). -/
def jobRefs (s : State) (t : Fin 32) : Nat :=
  (s.lanes.toList.map fun l => l.jobs.countP fun j => j.target == t).sum

/-- The transaction of target `t` that is running (R5, R12). -/
def runningOn (s : State) (t : Fin 32) : Option Transaction :=
  (s.lanes.toList.filterMap fun l => l.txn).find? fun x => x.target == t

/-- Something refers to target `t` (R5 check 4). -/
def targetInUse (s : State) (t : Fin 32) : Bool :=
  pollRefs s t != 0 || jobRefs s t != 0 || (runningOn s t).isSome

/-- The checks of UNBIND_TARGET (R5). -/
def checkUnbindTarget (body : List Byte) (s : State) : Checked (Fin 32) :=
  match checkIndex 32 body s with
  | .error e => .error e
  | .ok t =>
    if (s.target t).state = .free then .error .noEntry
    else if targetInUse s t then .error .inUse
    else .ok t

/-- An accepted UNBIND_TARGET (R6). -/
def unbindTarget (tag : Byte) (t : Fin 32) (s : State) : State :=
  answer tag 0x10 [byte t.val] (changeTarget t Target.free (removeProbe t s))

/-- UNBIND_TARGET, admitted. -/
def runUnbindTarget (tag : Byte) (body : List Byte) (s : State) : State :=
  carryOut tag 0x10 (checkUnbindTarget body s) (unbindTarget tag) s

/-- UNBIND_TARGET (R5, R6). -/
def execUnbindTarget (tag : Byte) (body : List Byte) (s : State) : Host.Outcome State Fault Refusal :=
  hostCommand 0x10 tag (runUnbindTarget tag body) s

/-! ### READ_TARGET (R11, R12) -/

/-- The fields of a target entry in the order of R1. -/
def targetFields (x : Target) : List Byte :=
  [x.state.code, byte x.lane.val, x.busAddress.setWidth 8, byte x.width.val, byte x.retryLimit.val,
    byte x.threshold.val, byte x.probeExponent.val, byte x.failures, byte x.countdown]
  ++ word x.counts.completionsOk ++ word x.counts.addrNacks ++ word x.counts.dataNacks
  ++ word x.counts.stretchTimeouts ++ word x.counts.quarantineEntries

/-- Records in the Result Queue whose Target is `t` (R12). -/
def recordRefs (s : State) (t : Fin 32) : Nat := s.records.countP fun r => r.target == t

/-- The reference summary (R12): all zero for a FREE entry. -/
def referenceSummary (s : State) (t : Fin 32) : List Byte :=
  if (s.target t).state = .free then [0, 0, 0, 0, 0]
  else
    [byte (pollRefs s t), byte (jobRefs s t),
      (match runningOn s t with | some x => x.work.code | none => 0),
      flag (probePending s t), byte (recordRefs s t)]

/-- READ_TARGET, admitted. -/
def runReadTarget (tag : Byte) (body : List Byte) (s : State) : State :=
  carryOut tag 0x11 (checkIndex 32 body s)
    (fun t u => answer tag 0x11 (byte t.val :: (targetFields (s.target t) ++ referenceSummary s t)) u) s

/-- READ_TARGET (R11, R12). -/
def execReadTarget (tag : Byte) (body : List Byte) (s : State) : Host.Outcome State Fault Refusal :=
  hostCommand 0x11 tag (runReadTarget tag body) s

/-! ### SET_TARGET_STATE (R101, R102) -/

/-- The checks of SET_TARGET_STATE (R101): the target and whether the action is QUARANTINE. -/
def checkSetTargetState (body : List Byte) (s : State) : Checked (Fin 32 × Bool) :=
  match body with
  | [t, action] =>
    if s.op.legalAlways then
      match indexField 32 t, yesNoField action with
      | some t, some quarantine => if (s.target t).state = .free then .error .noEntry else .ok (t, quarantine)
      | _, _ => .error .badValue
    else .error .wrongState
  | _ => .error .badLength

/-- The effect of REVIVE by the State of the entry (R101). -/
def reviveTarget (t : Fin 32) (s : State) : State :=
  let x := s.target t
  match x.state with
  | .free | .online => s
  | .suspect => changeTarget t { x with state := .online, failures := 0 } s
  | .quarantined =>
    wakeLane x.lane (changeTarget t { x with state := .online, failures := 0, countdown := 0 } (removeProbe t s))

/-- The effect of QUARANTINE by the State of the entry (R102). -/
def quarantineTarget (t : Fin 32) (s : State) : State :=
  let x := s.target t
  match x.state with
  | .free => s
  | .online | .suspect => changeTarget t x.quarantine s
  | .quarantined =>
    removeProbe t (if probeRunning s t then s else s.setTarget t { x with countdown := x.fullCountdown })

/-- The reply of SET_TARGET_STATE: target number, resulting State and F (R101). -/
def answerTargetState (tag : Byte) (t : Fin 32) (s : State) : State :=
  answer tag 0x12 [byte t.val, (s.target t).state.code, byte (s.target t).failures] s

/-- SET_TARGET_STATE, admitted. -/
def runSetTargetState (tag : Byte) (body : List Byte) (s : State) : State :=
  carryOut tag 0x12 (checkSetTargetState body s)
    (fun a u => answerTargetState tag a.1 (if a.2 then quarantineTarget a.1 u else reviveTarget a.1 u)) s

/-- SET_TARGET_STATE with action REVIVE (R101). -/
def execSetTargetStateRevive (tag target : Byte) (rest : List Byte) (s : State) : Host.Outcome State Fault Refusal :=
  hostCommand 0x12 tag (runSetTargetState tag (target :: 0x00 :: rest)) s

/-- SET_TARGET_STATE with action QUARANTINE (R102). -/
def execSetTargetStateQuarantine (tag target : Byte) (rest : List Byte) (s : State) :
    Host.Outcome State Fault Refusal :=
  hostCommand 0x12 tag (runSetTargetState tag (target :: 0x01 :: rest)) s

end Sys2Proof.Machine
end

