-- ==== Sys2Proof/Machine/PollCommands.lean ====
section
/-! DEFINITION. SET_CYCLE, DEFINE_POLL, DELETE_POLL, SET_POLL_STATE and READ_POLL (R16, R23 to R28). -/

namespace Sys2Proof.Machine

/-! ### SET_CYCLE (R16) -/

/-- The checks of SET_CYCLE (R16). -/
def checkSetCycle (body : List Byte) (s : State) : Checked Nat :=
  match body with
  | [i] =>
    if s.op.legalInStandby then
      match rangeField 1 250 i with
      | some n => .ok n
      | none => .error .badValue
    else .error .wrongState
  | _ => .error .badLength

/-- The lane's C and B recomputed for the cycle interval, and R set to 0 (R17, R40). -/
def Lane.withInterval (l : Lane) (interval : Nat) : Lane :=
  { l with capacity := capacityOf interval l.speed
           budget := budgetOf (capacityOf interval l.speed) l.pollShare
           remaining := 0 }

/-- An accepted SET_CYCLE (R16). -/
def setCycle (tag : Byte) (n : Nat) (s : State) : State :=
  answer tag 0x07 [] { s with interval := n, lanes := s.lanes.map fun l => l.withInterval n }

/-- SET_CYCLE, admitted. -/
def runSetCycle (tag : Byte) (body : List Byte) (s : State) : State :=
  carryOut tag 0x07 (checkSetCycle body s) (setCycle tag) s

/-- SET_CYCLE (R16). -/
def execSetCycle (tag : Byte) (body : List Byte) (s : State) : Host.Outcome State Fault Refusal :=
  hostCommand 0x07 tag (runSetCycle tag body) s

/-! ### DEFINE_POLL (R23, R24) -/

/-- An accepted DEFINE_POLL's operands: the entry, its definition and its Initial State. -/
structure PollRequest where
  poll : Fin 48
  defn : PollDef
  initial : PollState
  deriving DecidableEq, Repr

/-- The range checks of DEFINE_POLL (R23 check 3): any field out of its range gives BAD_VALUE. -/
def decodePoll (p t r1 r0 n e phase mode th1 th0 order keep initial : Byte) : Option PollRequest := do
  let p ← indexField 48 p
  let t ← indexField 32 t
  let _ ← rangeField 1 32 n
  let e ← indexField 8 e
  let phase ← rangeField 0 (2 ^ e.val - 1) phase
  let mode ← reportModeField mode
  let threshold ← thresholdField mode th1 th0
  let order ← orderField mode order
  let n ← pollCountField mode n
  let keep ← yesNoField keep
  let initial ← initialStateField initial
  return ⟨p, ⟨t, registerField r1 r0, n, e, phase, mode, threshold, order, keep⟩, initial⟩

/-- An enabled alert line is bound to the poll entry (R23, R26). -/
def alertBound (s : State) (p : Fin 48) : Bool := s.lines.toList.any fun l => l.enabled && l.boundPoll == p

/-- The reference checks of DEFINE_POLL (R23 check 4). -/
def checkPollRefs (q : PollRequest) (s : State) : Checked PollRequest :=
  if (s.target q.defn.target).state = .free then .error .noEntry
  else if registerFits (s.target q.defn.target).width q.defn.register = false then .error .badValue
  else if alertBound s q.poll = true ∧ (s.target q.defn.target).lane ≠ pollLane s q.poll then .error .inUse
  else .ok q

/-- The checks of DEFINE_POLL (R23). -/
def checkDefinePoll (body : List Byte) (s : State) : Checked PollRequest :=
  match body with
  | [p, t, r1, r0, n, e, phase, mode, th1, th0, order, keep, initial] =>
    if s.op.legalAlways then
      match decodePoll p t r1 r0 n e phase mode th1 th0 order keep initial with
      | some q => checkPollRefs q s
      | none => .error .badValue
    else .error .wrongState
  | _ => .error .badLength

/-- The entry that an accepted DEFINE_POLL makes of the entry `e` (R24): the Generation counts on, snapshot and
counters start afresh, the Waiting Record link is absent (R117). -/
def Poll.defined (e : Poll) (q : PollRequest) : Poll :=
  ⟨q.initial, e.generation + 1, q.defn, .invalid q.defn.byteCount, .zero, none⟩

/-- An accepted DEFINE_POLL (R24, R25). -/
def definePoll (tag : Byte) (q : PollRequest) (s : State) : State :=
  answer tag 0x08 [byte q.poll.val, (s.poll q.poll).generation + 1]
    (unlistPoll q.poll (markDefinitionEnd q.poll (s.setPoll q.poll ((s.poll q.poll).defined q))))

/-- DEFINE_POLL, admitted. -/
def runDefinePoll (tag : Byte) (body : List Byte) (s : State) : State :=
  carryOut tag 0x08 (checkDefinePoll body s) (definePoll tag) s

/-- DEFINE_POLL (R23 to R25). -/
def execDefinePoll (tag : Byte) (body : List Byte) (s : State) : Host.Outcome State Fault Refusal :=
  hostCommand 0x08 tag (runDefinePoll tag body) s

/-! ### DELETE_POLL (R26) -/

/-- The checks of DELETE_POLL (R26). -/
def checkDeletePoll (body : List Byte) (s : State) : Checked (Fin 48) :=
  match checkIndex 48 body s with
  | .error e => .error e
  | .ok p =>
    if (s.poll p).state = .free then .error .noEntry
    else if alertBound s p then .error .inUse
    else .ok p

/-- An accepted DELETE_POLL (R26): the entry becomes FREE and keeps its Generation. -/
def deletePoll (tag : Byte) (p : Fin 48) (s : State) : State :=
  answer tag 0x09 [byte p.val]
    (unlistPoll p (markDefinitionEnd p (s.setPoll p (Poll.free (s.poll p).generation))))

/-- DELETE_POLL, admitted. -/
def runDeletePoll (tag : Byte) (body : List Byte) (s : State) : State :=
  carryOut tag 0x09 (checkDeletePoll body s) (deletePoll tag) s

/-- DELETE_POLL (R26). -/
def execDeletePoll (tag : Byte) (body : List Byte) (s : State) : Host.Outcome State Fault Refusal :=
  hostCommand 0x09 tag (runDeletePoll tag body) s

/-! ### SET_POLL_STATE (R27) -/

/-- The checks of SET_POLL_STATE (R27): the entry and whether the action is RESUME. -/
def checkSetPollState (body : List Byte) (s : State) : Checked (Fin 48 × Bool) :=
  match body with
  | [p, action] =>
    if s.op.legalAlways then
      match indexField 48 p, yesNoField action with
      | some p, some resume => if (s.poll p).state = .free then .error .noEntry else .ok (p, resume)
      | _, _ => .error .badValue
    else .error .wrongState
  | _ => .error .badLength

/-- The effect of PAUSE (R27): the entry leaves its work list without a miss. -/
def pausePoll (p : Fin 48) (s : State) : State := unlistPoll p (s.setPoll p { s.poll p with state := .paused })

/-- The effect of RESUME (R27). -/
def resumePoll (p : Fin 48) (s : State) : State := s.setPoll p { s.poll p with state := .active }

/-- SET_POLL_STATE, admitted: the reply carries the resulting State (R27). -/
def runSetPollState (tag : Byte) (body : List Byte) (s : State) : State :=
  carryOut tag 0x0A (checkSetPollState body s)
    (fun a u =>
      if a.2 then answer tag 0x0A [byte a.1.val, PollState.active.code] (resumePoll a.1 u)
      else answer tag 0x0A [byte a.1.val, PollState.paused.code] (pausePoll a.1 u)) s

/-- SET_POLL_STATE with action PAUSE (R27). -/
def execSetPollStatePause (tag poll : Byte) (rest : List Byte) (s : State) : Host.Outcome State Fault Refusal :=
  hostCommand 0x0A tag (runSetPollState tag (poll :: 0x00 :: rest)) s

/-- SET_POLL_STATE with action RESUME (R27). -/
def execSetPollStateResume (tag poll : Byte) (rest : List Byte) (s : State) : Host.Outcome State Fault Refusal :=
  hostCommand 0x0A tag (runSetPollState tag (poll :: 0x01 :: rest)) s

/-! ### READ_POLL (R28) -/

/-- State, Generation and definition fields of a poll entry (R28). -/
def pollFields (e : Poll) : List Byte :=
  [e.state.code, e.generation, byte e.defn.target.val] ++ word e.defn.register.toNat
  ++ [byte e.defn.byteCount, byte e.defn.periodExponent.val, byte e.defn.phase, e.defn.mode.code]
  ++ word e.defn.threshold ++ [e.defn.order.code, flag e.defn.keepLatest]

/-- The snapshot as READ_POLL shows it (R28): Last Status and Last Data zero while Valid is no, Last Data preceded by
its count (R159). -/
def snapshotFields (n : Snapshot) : List Byte :=
  if n.valid then flag true :: n.lastStatus.code :: byte n.lastData.length :: n.lastData
  else flag false :: 0 :: byte n.lastData.length :: List.replicate n.lastData.length 0

/-- The misses of an entry or a notice in the order SHED, LATE, QUARANTINED, LANE_DOWN (R22). -/
def missFields (m : Misses) : List Byte := word m.shed ++ word m.late ++ word m.quarantined ++ word m.laneDown

/-- The seven counters of a poll entry (R22). -/
def pollCounterFields (c : PollCounts) : List Byte :=
  word c.completions ++ word c.records ++ word c.superseded ++ missFields c.misses

/-- How a running transaction uses the poll entry `p` (R28): a scheduled transaction of the entry as POLL, or as
POLL_DISCARDED once R25 has marked it; an alert read as ALERT as long as the entry holds the definition the read took
(R84), not after a DEFINE_POLL or DELETE_POLL of the entry (R25, notes/assumptions/15.md). -/
def Transaction.useOf (x : Transaction) (p : Fin 48) (s : State) : Byte :=
  match x.work with
  | .poll q => if q = p then (if x.discarded then 0x05 else 0x01) else 0x00
  | .alert l => if (s.line l).boundPoll = p ∧ x.definitionGone = false then 0x02 else 0x00
  | .job _ | .probe => 0x00

/-- Running of READ_POLL (R28): the first present in the order POLL, ALERT, POLL_DISCARDED. -/
def pollRunning (s : State) (p : Fin 48) : Byte :=
  let uses := (s.lanes.toList.filterMap fun l => l.txn).map fun x => x.useOf p s
  if uses.contains 0x01 then 0x01 else if uses.contains 0x02 then 0x02 else if uses.contains 0x05 then 0x05 else 0x00

/-- Lane and Cost of a poll entry, 0 for a FREE entry (R28). -/
def laneAndCost (s : State) (p : Fin 48) : List Byte :=
  if (s.poll p).state = .free then [0, 0] else [byte (pollLane s p).val, byte (pollCost s p)]

/-- The entry is on a work list (R28). -/
def onWorkList (s : State) (p : Fin 48) : Bool := s.lanes.toList.any fun l => l.workList.contains p

/-- The enabled alert lines bound to the entry, preceded by their count (R28, R159). DESIGN CHOICE: ascending order of the
line numbers, which the spec leaves open (notes/assumptions/29.md). -/
def boundLineFields (s : State) (p : Fin 48) : List Byte :=
  let ls := (List.finRange 8).filter fun l => (s.line l).enabled && (s.line l).boundPoll == p
  byte ls.length :: ls.map fun l => byte l.val

/-- READ_POLL, admitted. -/
def runReadPoll (tag : Byte) (body : List Byte) (s : State) : State :=
  carryOut tag 0x0B (checkIndex 48 body s)
    (fun p u =>
      answer tag 0x0B
        (byte p.val :: (pollFields (s.poll p) ++ snapshotFields (s.poll p).snapshot
          ++ pollCounterFields (s.poll p).counts ++ laneAndCost s p
          ++ [flag (onWorkList s p), pollRunning s p] ++ boundLineFields s p)) u) s

/-- READ_POLL (R28). -/
def execReadPoll (tag : Byte) (body : List Byte) (s : State) : Host.Outcome State Fault Refusal :=
  hostCommand 0x0B tag (runReadPoll tag body) s

end Sys2Proof.Machine
end

