-- ==== Sys2Proof/Machine/LaneCommands.lean ====
section
/-! DEFINITION. SET_LANE, READ_LANE and LANE_RESET (R38, R39, R60 to R62). -/

namespace Sys2Proof.Machine

/-! ### SET_LANE (R38, R39) -/

/-- The operands of SET_LANE. -/
structure LaneRequest where
  lane : Fin 4
  enable : Bool
  speed : Speed
  stretchLimit : Nat
  pollShare : Nat
  deriving DecidableEq, Repr

/-- The range checks of SET_LANE (R38 check 3). -/
def decodeLane (lane enable sp1 sp0 stretch share : Byte) : Option LaneRequest := do
  let lane ← indexField 4 lane
  let enable ← yesNoField enable
  let speed ← speedField sp1 sp0
  let stretch ← rangeField 1 255 stretch
  let share ← rangeField 10 90 share
  return ⟨lane, enable, speed, stretch, share⟩

/-- The checks of SET_LANE (R38). -/
def checkSetLane (body : List Byte) (s : State) : Checked LaneRequest :=
  match body with
  | [lane, enable, sp1, sp0, stretch, share] =>
    if s.op.legalInStandby then
      match decodeLane lane enable sp1 sp0 stretch share with
      | some q =>
        if (s.lane q.lane).state = .recovering then .error .busy
        else if q.enable = false ∧ (s.lane q.lane).jobs ≠ [] then .error .inUse
        else .ok q
      | none => .error .badValue
    else .error .wrongState
  | _ => .error .badLength

/-- The State of a lane after SET_LANE (R39). -/
def LaneState.afterSetLane (st : LaneState) (enable : Bool) : LaneState :=
  match st, enable with
  | .off, true => .idle
  | .idle, false => .off
  | .faulted, false => .off
  | st, _ => st

/-- The lane with new settings (R39): C and B recomputed, R set to 0. -/
def Lane.withSettings (l : Lane) (interval : Nat) (q : LaneRequest) : Lane :=
  { l with state := l.state.afterSetLane q.enable
           speed := q.speed
           stretchLimit := q.stretchLimit
           pollShare := q.pollShare
           capacity := capacityOf interval q.speed
           budget := budgetOf (capacityOf interval q.speed) q.pollShare
           remaining := 0 }

/-- An accepted SET_LANE (R39); taking a FAULTED lane OFF posts a notice (R59). -/
def setLane (tag : Byte) (q : LaneRequest) (s : State) : State :=
  let l := s.lane q.lane
  let s1 := s.setLane q.lane (l.withSettings s.interval q)
  answer tag 0x0C [byte q.lane.val, (l.state.afterSetLane q.enable).code]
    (if l.state = .faulted ∧ q.enable = false then post (.laneState q.lane .off .reset) s1 else s1)

/-- SET_LANE, admitted. -/
def runSetLane (tag : Byte) (body : List Byte) (s : State) : State :=
  carryOut tag 0x0C (checkSetLane body s) (setLane tag) s

/-- SET_LANE (R38, R39). -/
def execSetLane (tag : Byte) (body : List Byte) (s : State) : Host.Outcome State Fault Refusal :=
  hostCommand 0x0C tag (runSetLane tag body) s

/-! ### READ_LANE (R62) -/

/-- Source of the Current Transaction (R47). -/
def Transaction.sourceNumber (x : Transaction) : Nat :=
  match x.work with
  | .poll p => p.val
  | .alert l => l.val
  | .job j => j.number
  | .probe => x.target.val

/-- The Current Transaction in a READ_LANE reply, all zero when none is present (R62, R159). -/
def transactionFields : Option Transaction → List Byte
  | none => List.replicate 13 0
  | some x =>
    [x.work.code] ++ word x.sourceNumber ++ [x.generation, byte x.target.val, x.op.code] ++ word x.register.toNat
    ++ [byte x.byteCount, byte x.attempt, byte x.cost, byte x.charged, flag x.discarded]

/-- The seven counters of a lane (R63). -/
def laneCounterFields (c : LaneCounts) : List Byte :=
  word c.transactions ++ word c.retries ++ word c.slips ++ word c.stretchTimeouts ++ word c.arbLosses
  ++ word c.recoveries ++ word c.faults

/-- The READ_LANE result fields of lane `i`, with the sampled levels of SCL and SDA (R62). -/
def laneFields (i : Fin 4) (l : Lane) (scl sda : Bool) : List Byte :=
  [byte i.val, l.state.code] ++ word l.speed.kbits ++ [byte l.stretchLimit, byte l.pollShare]
  ++ word l.capacity ++ word l.budget ++ word l.remaining
  ++ [flag l.closed.probe, flag l.closed.alert, flag l.closed.schedule, flag l.closed.job]
  ++ [byte l.probeTier.length, byte l.alertTier.length, byte l.workList.length, byte l.jobs.length]
  ++ transactionFields l.txn
  ++ [l.reservation.code, l.lastFault.code, byte l.waitingResets.length, flag scl, flag sda]
  ++ laneCounterFields l.counts

/-- An accepted READ_LANE; the levels of SCL and SDA are sampled once, a free choice of the surroundings
(notes/assumptions/9.md). -/
def readLane (tag : Byte) (i : Fin 4) (s : State) : State :=
  withChoice
    (fun picks u =>
      answer tag 0x0D (laneFields i (s.lane i) (picks.getD 0 1 % 2 == 1) (picks.getD 1 1 % 2 == 1)) u) s

/-- READ_LANE, admitted. -/
def runReadLane (tag : Byte) (body : List Byte) (s : State) : State :=
  carryOut tag 0x0D (checkIndex 4 body s) (readLane tag) s

/-- READ_LANE (R62). -/
def execReadLane (tag : Byte) (body : List Byte) (s : State) : Host.Outcome State Fault Refusal :=
  hostCommand 0x0D tag (runReadLane tag body) s

/-! ### LANE_RESET (R60) -/

/-- The checks of LANE_RESET (R60). -/
def checkLaneReset (body : List Byte) (s : State) : Checked (Fin 4) :=
  match checkIndex 4 body s with
  | .error e => .error e
  | .ok i => if (s.lane i).state = .off then .error .laneDown else .ok i

/-- The effect of LANE_RESET by the state of the lane (R60): a running transaction ends ABORTED. -/
def abandonLane (i : Fin 4) (s : State) : State :=
  match (s.lane i).state with
  | .off | .recovering => s
  | .idle => s.setLane i ((s.lane i).recover false)
  | .busy => endTransaction i (Final.plain .aborted) s
  | .faulted => post (.laneState i .recovering .reset) (s.setLane i ((s.lane i).recover true))

/-- An accepted LANE_RESET (R60, R61): its reply waits for the end of the recovery. -/
def laneReset (tag : Byte) (i : Fin 4) (s : State) : State :=
  let s1 := abandonLane i s
  s1.setLane i { s1.lane i with waitingResets := (s1.lane i).waitingResets ++ [tag] }

/-- LANE_RESET, admitted. -/
def runLaneReset (tag : Byte) (body : List Byte) (s : State) : State :=
  carryOut tag 0x0E (checkLaneReset body s) (laneReset tag) s

/-- LANE_RESET (R60). -/
def execLaneReset (tag : Byte) (body : List Byte) (s : State) : Host.Outcome State Fault Refusal :=
  hostCommand 0x0E tag (runLaneReset tag body) s

end Sys2Proof.Machine
end

