-- ==== Sys2Proof/Machine/JobCommands.lean ====
section
/-! DEFINITION. SUBMIT, CANCEL, FLUSH_LANE and the removals of the drain (R65 to R77). -/

namespace Sys2Proof.Machine

/-! ### Jobs that exist (R66, R73) -/

/-- The job that a running transaction serves. -/
def Transaction.job (x : Transaction) : Option Job :=
  match x.work with
  | .job j => some j
  | .poll _ | .alert _ | .probe => none

/-- The job running on a lane (R65). -/
def Lane.runningJob (l : Lane) : Option Job := l.txn.bind Transaction.job

/-- Numbers of the jobs that are queued or running (R66). -/
def heldNumbers (s : State) : List Nat :=
  s.lanes.toList.flatMap fun l => (l.jobs.map fun j => j.number) ++ (l.runningJob.toList.map fun j => j.number)

/-- The job number after `n`: 65535 wraps to 1 (R66). -/
def nextNumber (n : Nat) : Nat := if n < 65535 then n + 1 else 1

/-- The first number from `n` on that is not held (R66). One more try than numbers held is enough. -/
def freshNumber (held : List Nat) : Nat → Nat → Nat
  | 0, n => n
  | tries + 1, n => if held.contains n then freshNumber held tries (nextNumber n) else n

/-- The number the next accepted job takes (R66). DESIGN CHOICE: the counter passes over a held number when a SUBMIT is
accepted, by the numbers held at that moment, which the spec leaves open (notes/assumptions/31.md). -/
def State.jobNumber (s : State) : Nat := freshNumber (heldNumbers s) (heldNumbers s).length s.nextJob

/-! ### SUBMIT (R67, R68) -/

/-- The operands of SUBMIT (section 4.2), unused fields stored as 0. -/
structure JobRequest where
  target : Fin 32
  kind : Operation
  register : Word16
  byteCount : Nat
  data : List Byte
  deriving DecidableEq, Repr

/-- The length of a SUBMIT body, from its Kind and Byte Count bytes alone (R67 check 1). -/
def submitLengthOk (kind count : Byte) (data : List Byte) : Bool :=
  if kind = 0x01 then data.length == count.toNat else data.isEmpty

/-- The range checks of SUBMIT (R67 check 3); the Register of a PROBE is stored as 0. -/
def decodeJob (t kind r1 r0 n : Byte) (data : List Byte) : Option JobRequest := do
  let t ← indexField 32 t
  let kind ← jobKindField kind
  let n ← jobCountField kind n
  return ⟨t, kind, if kind = .probe then 0 else registerField r1 r0, n, data⟩

/-- The job needs a pool block for its data (R67, R68). -/
def JobRequest.needsBlock (q : JobRequest) : Bool := q.kind == .write && decide (1 ≤ q.byteCount)

/-- The lane of the job's target. -/
def JobRequest.lane (q : JobRequest) (s : State) : Fin 4 := (s.target q.target).lane

/-- The reference and resource checks of SUBMIT (R67 checks 4 and 5). -/
def checkJobRefs (q : JobRequest) (s : State) : Checked JobRequest :=
  let t := s.target q.target
  let l := s.lane t.lane
  if t.state = .free then .error .noEntry
  else if q.kind ≠ .probe ∧ registerFits t.width q.register = false then .error .badValue
  else if t.state = .quarantined then .error .quarantined
  else if l.state = .off ∨ l.state = .faulted then .error .laneDown
  else if l.capacity < costOf q.kind t.width.val q.byteCount then .error .tooLong
  else if Config.jobsPerLane ≤ l.jobs.length then .error .queueFull
  else if q.needsBlock = true ∧ s.pool.free = 0 then .error .noSpace
  else .ok q

/-- The checks of SUBMIT (R67). -/
def checkSubmit (body : List Byte) (s : State) : Checked JobRequest :=
  match body with
  | t :: kind :: r1 :: r0 :: n :: data =>
    if submitLengthOk kind n data then
      if s.op.legalInRunning then
        match decodeJob t kind r1 r0 n data with
        | some q => checkJobRefs q s
        | none => .error .badValue
      else .error .wrongState
    else .error .badLength
  | _ => .error .badLength

/-- The job that an accepted SUBMIT creates (R68). -/
def newJob (tag : Byte) (number : Nat) (q : JobRequest) : Job :=
  ⟨number, tag, q.target, q.kind, q.register, q.byteCount, if q.needsBlock then some q.data else none, false⟩

/-- An accepted SUBMIT (R68). -/
def submit (tag : Byte) (q : JobRequest) (s : State) : State :=
  let i := q.lane s
  let number := s.jobNumber
  let s1 : State := { s with nextJob := nextNumber number }
  let s2 := if q.needsBlock then claimBlock s1 else s1
  let s3 := s2.setLane i { s2.lane i with jobs := (s2.lane i).jobs ++ [newJob tag number q] }
  answer tag 0x13 (word number) (wakeLane i s3)

/-- SUBMIT, admitted. -/
def runSubmit (tag : Byte) (body : List Byte) (s : State) : State :=
  carryOut tag 0x13 (checkSubmit body s) (submit tag) s

/-- SUBMIT (R67, R68). -/
def execSubmit (tag : Byte) (body : List Byte) (s : State) : Host.Outcome State Fault Refusal :=
  hostCommand 0x13 tag (runSubmit tag body) s

/-! ### CANCEL (R73) -/

/-- The lane in whose queue a job of the number stands. -/
def queueOf (s : State) (number : Nat) : Option (Fin 4) :=
  (List.finRange 4).find? fun i => (s.lane i).jobs.any fun j => j.number == number

/-- A job of the number is running. -/
def jobRunning (s : State) (number : Nat) : Bool :=
  s.lanes.toList.any fun l => match l.runningJob with | some j => j.number == number | none => false

/-- The checks of CANCEL (R73): the lane of the queued job and its number. -/
def checkCancel (body : List Byte) (s : State) : Checked (Fin 4 × Nat) :=
  match body with
  | [n1, n0] =>
    if s.op.legalAlways then
      if wordField n1 n0 = 0 then .error .badValue
      else
        match queueOf s (wordField n1 n0) with
        | some i => if s.slotFree then .ok (i, wordField n1 n0) else .error .noSpace
        | none => if jobRunning s (wordField n1 n0) then .error .running else .error .notFound
    else .error .wrongState
  | _ => .error .badLength

/-- The queued job of the number leaves its queue and ends CANCELLED (R73); the lane is told (R43). -/
def cancelJob (i : Fin 4) (number : Nat) (s : State) : State :=
  match (s.lane i).jobs.find? (fun j => j.number == number) with
  | some j =>
    wakeLane i (endQueuedJob j .cancelled
      (s.setLane i { s.lane i with jobs := (s.lane i).jobs.eraseP fun j => j.number == number }))
  | none => s

/-- An accepted CANCEL (R73); the end of DRAINING is checked (R156), the two replies in the order of R146. -/
def cancel (tag : Byte) (a : Fin 4 × Nat) (s : State) : State :=
  finishDrain [okReply tag 0x14 (word a.2)] (cancelJob a.1 a.2 s)

/-- CANCEL, admitted. -/
def runCancel (tag : Byte) (body : List Byte) (s : State) : State :=
  carryOut tag 0x14 (checkCancel body s) (cancel tag) s

/-- CANCEL (R73). -/
def execCancel (tag : Byte) (body : List Byte) (s : State) : Host.Outcome State Fault Refusal :=
  hostCommand 0x14 tag (runCancel tag body) s

/-! ### FLUSH_LANE (R75) -/

/-- The checks of FLUSH_LANE (R75). -/
def checkFlushLane (body : List Byte) (s : State) : Checked (Fin 4) :=
  match checkIndex 4 body s with
  | .error e => .error e
  | .ok i => if s.freeSlots < (s.lane i).jobs.length then .error .noSpace else .ok i

/-- Every queued job of the lane ends CANCELLED, oldest first (R75). -/
def flushJobs (i : Fin 4) (s : State) : State :=
  (s.lane i).jobs.foldl (fun t j => endQueuedJob j .cancelled t) (s.setLane i { s.lane i with jobs := [] })

/-- An accepted FLUSH_LANE (R75); the lane is told if its queue was not empty (R43), the end of DRAINING is checked
(R156). -/
def flushLane (tag : Byte) (i : Fin 4) (s : State) : State :=
  let s1 := flushJobs i s
  finishDrain [okReply tag 0x15 [byte i.val, byte (s.lane i).jobs.length]]
    (if (s.lane i).jobs.isEmpty then s1 else wakeLane i s1)

/-- FLUSH_LANE, admitted. -/
def runFlushLane (tag : Byte) (body : List Byte) (s : State) : State :=
  carryOut tag 0x15 (checkFlushLane body s) (flushLane tag) s

/-- FLUSH_LANE (R75). -/
def execFlushLane (tag : Byte) (body : List Byte) (s : State) : Host.Outcome State Fault Refusal :=
  hostCommand 0x15 tag (runFlushLane tag body) s

/-! ### The drain (R77) -/

/-- The head job of a queue is removed by the drain (R77) and counted (R156). -/
def drainHead (i : Fin 4) (j : Job) (rest : List Job) (s : State) : State :=
  endQueuedJob j .cancelled
    { s.setLane i { s.lane i with jobs := rest } with drainCancelled := s.drainCancelled + 1 }

/-- DRAIN_REMOVAL (R77): in DRAINING, a marked job at the head of the queue of lane `i`, and a free record slot. -/
def execDrainRemoval (i : Fin 4) (s : State) : Host.Outcome State Fault Refusal :=
  match (s.lane i).jobs with
  | j :: rest =>
    if s.op = .draining ∧ j.cancelling = true ∧ s.slotFree = true then
      finish (finishDrain [] (drainHead i j rest s))
    else .next s
  | [] => .next s

end Sys2Proof.Machine
end

