-- ==== Sys2Proof/Machine/AlertCommands.lean ====
section
/-! DEFINITION. The Alert Unit: the filter, the edges, SET_ALERT, READ_ALERT and the evaluation at START (R79 to R93). -/

namespace Sys2Proof.Machine

/-! ### The filter and the edges (R80, R82, R83) -/

/-- An input level is active under a line's Polarity (R80). -/
def Line.activeAt (l : Line) (high : Bool) : Bool :=
  match l.polarity with
  | .low => !high
  | .high => high

/-- The input of line `l` is active at this moment (R80, R91). -/
def inputActive (s : State) (l : Fin 8) : Bool := (s.line l).activeAt (s.alertPins.get l)

/-- The line's edges count: EDGE mode, a read pending or running, in RUNNING, Closing clear (R83). -/
def Line.countsEdge (l : Line) (op : OpState) : Bool :=
  l.mode == .edge && (l.state == .pending || l.state == .running) && op == .running && !l.closing

/-- An active edge of line `l` (R82, R83): an ARMED line triggers in RUNNING, an EDGE line whose read is pending or
running owes one more read and counts the edge. -/
def activeEdge (l : Fin 8) (s : State) : State :=
  if (s.line l).state = .armed ∧ s.op = .running then trigger l s
  else if (s.line l).countsEdge s.op then
    s.setLine l { s.line l with followUp := true, extraEdges := count8 (s.line l).extraEdges }
  else s

/-- The Filtered Level follows the input (R80); a change to active is an active edge. -/
def takeLevel (l : Fin 8) (s : State) : State :=
  let now := inputActive s l
  let s1 := s.setLine l { s.line l with level := now }
  if now then activeEdge l s1 else s1

/-- The Filtered Level of the enabled line `l` differs from its input: the filter is timing a change (R80). -/
def filterTiming (s : State) (l : Fin 8) : Bool := (s.line l).enabled && inputActive s l != (s.line l).level

/-- ALERT_INPUT_CHANGE (R80): the input changes to a level; with f = 0 an enabled line takes it at once, otherwise the
filter starts timing. -/
def execAlertInputChange (l : Fin 8) (high : Bool) (s : State) : Host.Outcome State Fault Refusal :=
  let s1 : State := { s with alertPins := s.alertPins.set l high }
  if (s.line l).filter = 0 ∧ filterTiming s1 l = true then finish (takeLevel l s1) else .next s1

/-- ALERT_FILTER_EXPIRY (R80): the input has held its new level for f × 50 µs. -/
def execAlertFilterExpiry (l : Fin 8) (s : State) : Host.Outcome State Fault Refusal :=
  if filterTiming s l then finish (takeLevel l s) else .next s

/-! ### SET_ALERT (R88 to R90) -/

/-- The operands of the enable form of SET_ALERT (section 5.4). -/
structure AlertRequest where
  line : Fin 8
  polarity : Polarity
  mode : AlertMode
  filter : Fin 16
  boundPoll : Fin 48
  deriving DecidableEq, Repr

/-- The range checks of the enable form (R88 check 3). -/
def decodeAlert (line polarity mode filter poll : Byte) : Option AlertRequest := do
  let line ← indexField 8 line
  let polarity ← polarityField polarity
  let mode ← alertModeField mode
  let filter ← indexField 16 filter
  let poll ← indexField 48 poll
  return ⟨line, polarity, mode, filter, poll⟩

/-- The reference checks of the enable form (R88 check 4). -/
def checkAlertRefs (q : AlertRequest) (s : State) : Checked AlertRequest :=
  if (s.poll q.boundPoll).state = .free then .error .noEntry
  else if (s.line q.line).state = .pending ∨ (s.line q.line).state = .running then .error .busy
  else .ok q

/-- The checks of SET_ALERT (R88): the enable form's operands, or the line of a disable form. -/
def checkSetAlert (body : List Byte) (s : State) : Checked (AlertRequest ⊕ Fin 8) :=
  match body with
  | [line, enabled, polarity, mode, filter, poll] =>
    if s.op.legalAlways then
      match indexField 8 line, yesNoField enabled with
      | some l, some false => .ok (.inr l)
      | some _, some true =>
        match decodeAlert line polarity mode filter poll with
        | some q => (checkAlertRefs q s).map Sum.inl
        | none => .error .badValue
      | _, _ => .error .badValue
    else .error .wrongState
  | _ => .error .badLength

/-- The line with the settings of an accepted enable form, ARMED, its Filtered Level the input's level (R89). -/
def Line.armedWith (l : Line) (q : AlertRequest) (high : Bool) : Line :=
  let l1 : Line := { l with enabled := true
                            polarity := q.polarity
                            mode := q.mode
                            filter := q.filter
                            boundPoll := q.boundPoll
                            followUp := false
                            closing := false
                            extraEdges := 0
                            state := .armed }
  { l1 with level := l1.activeAt high }

/-- A LEVEL line that is ARMED with its Filtered Level active triggers in RUNNING (R82). -/
def levelTrigger (l : Fin 8) (s : State) : State :=
  if s.op = .running ∧ (s.line l).mode = .level ∧ (s.line l).state = .armed ∧ (s.line l).level = true then trigger l s
  else s

/-- The effect of an accepted enable form (R89). -/
def enableLine (q : AlertRequest) (s : State) : State :=
  levelTrigger q.line (s.setLine q.line ((s.line q.line).armedWith q (s.alertPins.get q.line)))

/-- The line disabled: the filter stops, Filtered Level inactive, Follow-up clear (R90). -/
def Line.disabled (l : Line) : Line := { l with enabled := false, level := false, followUp := false }

/-- The read of a PENDING line is removed from the ALERT tier of its lane; the lane is told (R90, R43). -/
def removeAlertRead (l : Fin 8) (s : State) : State :=
  let i := lineLane s l
  wakeLane i (s.setLane i { s.lane i with alertTier := (s.lane i).alertTier.filter (· != l) })

/-- The effect of an accepted disable form by the line's state (R90). -/
def disableLine (l : Fin 8) (s : State) : State :=
  let x := s.line l
  match x.state with
  | .off => s
  | .armed | .holdoff => s.setLine l { x.disabled with state := .off, extraEdges := 0 }
  | .pending => removeAlertRead l (s.setLine l { x.disabled with state := .off, extraEdges := 0 })
  | .running => s.setLine l { x.disabled with closing := true }

/-- The reply of SET_ALERT: line number and resulting State (R89, R90). -/
def answerAlert (tag : Byte) (l : Fin 8) (s : State) : State :=
  answer tag 0x16 [byte l.val, (s.line l).state.code] s

/-- SET_ALERT, admitted. -/
def runSetAlert (tag : Byte) (body : List Byte) (s : State) : State :=
  carryOut tag 0x16 (checkSetAlert body s)
    (fun a u =>
      match a with
      | .inl q => answerAlert tag q.line (enableLine q u)
      | .inr l => answerAlert tag l (disableLine l u)) s

/-- SET_ALERT, enable form (R88, R89). -/
def execSetAlertEnable (tag line : Byte) (rest : List Byte) (s : State) : Host.Outcome State Fault Refusal :=
  hostCommand 0x16 tag (runSetAlert tag (line :: 0x01 :: rest)) s

/-- SET_ALERT, disable form (R88, R90). -/
def execSetAlertDisable (tag line : Byte) (rest : List Byte) (s : State) : Host.Outcome State Fault Refusal :=
  hostCommand 0x16 tag (runSetAlert tag (line :: 0x00 :: rest)) s

/-! ### READ_ALERT (R91) -/

/-- The fields of an alert line in the order of R79. -/
def lineFields (x : Line) : List Byte :=
  [flag x.enabled, x.polarity.code, x.mode.code, byte x.filter.val, byte x.boundPoll.val, x.state.code,
    flag x.level, flag x.followUp, flag x.closing, byte x.extraEdges] ++ word x.triggers

/-- The lane of the Bound Poll, FFh when that entry is FREE (R91, R159). -/
def boundLaneField (s : State) (l : Fin 8) : Byte :=
  if (s.poll (s.line l).boundPoll).state = .free then 0xFF else byte (lineLane s l).val

/-- The position of a PENDING line's read in the ALERT tier of that lane, counted from 1, 0 otherwise (R91, R159). -/
def tierPosition (s : State) (l : Fin 8) : Byte :=
  if (s.line l).state = .pending then byte ((s.lane (lineLane s l)).alertTier.idxOf l + 1) else 0

/-- READ_ALERT, admitted. -/
def runReadAlert (tag : Byte) (body : List Byte) (s : State) : State :=
  carryOut tag 0x17 (checkIndex 8 body s)
    (fun l u =>
      answer tag 0x17
        (byte l.val :: (lineFields (s.line l) ++ [flag (inputActive s l), boundLaneField s l, tierPosition s l])) u) s

/-- READ_ALERT (R91). -/
def execReadAlert (tag : Byte) (body : List Byte) (s : State) : Host.Outcome State Fault Refusal :=
  hostCommand 0x17 tag (runReadAlert tag body) s

/-! ### The evaluation at START (R93) -/

/-- The LEVEL lines that trigger at the evaluation (R93). -/
def evaluatedLines (s : State) : List (Fin 8) :=
  (List.finRange 8).filter fun l =>
    (s.line l).enabled && (s.line l).mode == .level && (s.line l).state == .armed && (s.line l).level

/-- The evaluation of the lines, the triggers in a free order (R93, notes/assumptions/8.md). -/
def evaluateLines (picks : List Nat) (s : State) : State :=
  (reorder picks (evaluatedLines s)).foldl (fun t l => trigger l t) { s with evaluationOwed := false }

/-- ALERT_EVALUATION (R93, R154): owed since the START. -/
def execAlertEvaluation (s : State) : Host.Outcome State Fault Refusal :=
  if s.op = .running ∧ s.evaluationOwed = true then finish (withChoice evaluateLines s) else .next s

end Sys2Proof.Machine
end

