-- ==== Sys2Proof/Machine/Housekeeping.lean ====
section
/-! DEFINITION. PING, GET_STATUS, CLEAR_COUNTERS and GRANT (R140, R147 to R149). -/

namespace Sys2Proof.Machine

/-! ### PING (R147) -/

/-- The checks of PING: a BODY of 0 to 247 bytes (R147). -/
def checkPing (body : List Byte) (s : State) : Checked (List Byte) :=
  if 247 < body.length then .error .badLength else if s.op.legalAlways then .ok body else .error .wrongState

/-- PING, admitted: the BODY is echoed. -/
def runPing (tag : Byte) (body : List Byte) (s : State) : State :=
  carryOut tag 0x01 (checkPing body s) (answer tag 0x01) s

/-- PING (R147). -/
def execPing (tag : Byte) (body : List Byte) (s : State) : Host.Outcome State Fault Refusal :=
  hostCommand 0x01 tag (runPing tag body) s

/-! ### GET_STATUS (R148) -/

/-- The four host error counters (R148). -/
def errorFields (e : HostErrors) : List Byte := word e.gap ++ word e.length ++ word e.check ++ word e.overrun

/-- The result fields of GET_STATUS in the order of R148. -/
def statusFields (s : State) : List Byte :=
  [s.op.code] ++ word s.cycle.toNat ++ word s.credit ++ word s.sequence.toNat
  ++ [byte s.records.length, byte s.reservations, byte s.pool.free, byte s.pool.lowWater, byte s.notices.length,
      byte s.lostNotices, byte s.inFlight.length]
  ++ s.lanes.toList.map (fun l => l.state.code) ++ errorFields s.errors

/-- GET_STATUS, admitted. -/
def runGetStatus (tag : Byte) (body : List Byte) (s : State) : State :=
  carryOut tag 0x02 (checkEmpty OpState.legalAlways body s) (fun _ u => answer tag 0x02 (statusFields s) u) s

/-- GET_STATUS (R148). -/
def execGetStatus (tag : Byte) (body : List Byte) (s : State) : Host.Outcome State Fault Refusal :=
  hostCommand 0x02 tag (runGetStatus tag body) s

/-! ### CLEAR_COUNTERS (R149) -/

/-- The checks of CLEAR_COUNTERS (R149). -/
def checkClearCounters (body : List Byte) (s : State) : Checked CounterClass :=
  match body with
  | [b] =>
    if s.op.legalAlways then
      match classField b with
      | some c => .ok c
      | none => .error .badValue
    else .error .wrongState
  | _ => .error .badLength

/-- The five counters of every target entry (R10). -/
def clearTargets (s : State) : State := { s with targets := s.targets.map fun t => { t with counts := .zero } }

/-- The seven counters of every poll entry (R22). -/
def clearPolls (s : State) : State := { s with polls := s.polls.map fun p => { p with counts := .zero } }

/-- The seven counters of every lane (R63). -/
def clearLanes (s : State) : State := { s with lanes := s.lanes.map fun l => { l with counts := .zero } }

/-- Triggers of every alert line (R91). -/
def clearAlerts (s : State) : State := { s with lines := s.lines.map fun l => { l with triggers := 0 } }

/-- The low-water mark, set to the free-block count (R121). -/
def clearResult (s : State) : State := { s with pool := { s.pool with lowWater := s.pool.free } }

/-- The four host error counters (R132). -/
def clearHost (s : State) : State := { s with errors := .zero }

/-- The counters of a class cleared (R149). -/
def clearClass (c : CounterClass) (s : State) : State :=
  match c with
  | .all => clearHost (clearResult (clearAlerts (clearLanes (clearPolls (clearTargets s)))))
  | .target => clearTargets s
  | .poll => clearPolls s
  | .lane => clearLanes s
  | .alert => clearAlerts s
  | .result => clearResult s
  | .host => clearHost s

/-- CLEAR_COUNTERS, admitted. -/
def runClearCounters (tag : Byte) (body : List Byte) (s : State) : State :=
  carryOut tag 0x03 (checkClearCounters body s) (fun c u => answer tag 0x03 [c.code] (clearClass c u)) s

/-- CLEAR_COUNTERS (R149). -/
def execClearCounters (tag : Byte) (body : List Byte) (s : State) : Host.Outcome State Fault Refusal :=
  hostCommand 0x03 tag (runClearCounters tag body) s

/-! ### GRANT (R140) -/

/-- The checks of GRANT (R140). -/
def checkGrant (body : List Byte) (s : State) : Checked Nat :=
  match body with
  | [b] =>
    if s.op.legalAlways then
      match rangeField 1 255 b with
      | some n => .ok n
      | none => .error .badValue
    else .error .wrongState
  | _ => .error .badLength

/-- An accepted GRANT: the credit saturates at 4095, the reply carries the resulting credit (R140). -/
def grant (tag : Byte) (n : Nat) (s : State) : State :=
  answer tag 0x18 (word (min (s.credit + n) Config.creditLimit))
    { s with credit := min (s.credit + n) Config.creditLimit }

/-- GRANT, admitted. -/
def runGrant (tag : Byte) (body : List Byte) (s : State) : State :=
  carryOut tag 0x18 (checkGrant body s) (grant tag) s

/-- GRANT (R140). -/
def execGrant (tag : Byte) (body : List Byte) (s : State) : Host.Outcome State Fault Refusal :=
  hostCommand 0x18 tag (runGrant tag body) s

end Sys2Proof.Machine
end

