-- ==== Sys2Proof/Machine/Operating.lean ====
section
/-! DEFINITION. Operating states: START, STOP, RESET, the part reset and INIT (R151 to R157). -/

namespace Sys2Proof.Machine

/-! ### START (R154) -/

/-- The result fields of START: the Cycle Interval and the State of each lane as START found them (R154). -/
def startFields (s : State) : List Byte := byte s.interval :: s.lanes.toList.map fun l => l.state.code

/-- An accepted START (R154): RUNNING, the first cycle start with number 0, the evaluation of the lines owed (R93). -/
def start (tag : Byte) (s : State) : State :=
  answer tag 0x05 (startFields s) (startCycle 0 { s with op := .running, evaluationOwed := true })

/-- START, admitted. -/
def runStart (tag : Byte) (body : List Byte) (s : State) : State :=
  carryOut tag 0x05 (checkEmpty OpState.legalInStandby body s) (fun _ => start tag) s

/-- START (R154). -/
def execStart (tag : Byte) (body : List Byte) (s : State) : Host.Outcome State Fault Refusal :=
  hostCommand 0x05 tag (runStart tag body) s

/-! ### STOP (R155) -/

/-- A lane at STOP: work list emptied without misses (R35), pending revival probes and alert reads removed (R64),
queued jobs marked (R76). -/
def Lane.stopped (l : Lane) : Lane :=
  { l with workList := []
           probeTier := []
           alertTier := []
           jobs := l.jobs.map fun j => { j with cancelling := true }
           lookOwed := false }

/-- A line at STOP (R93). -/
def Line.stopped (l : Line) : Line :=
  match l.state with
  | .pending => { l with state := .armed, followUp := false, extraEdges := 0 }
  | .holdoff => { l with state := .armed, followUp := false }
  | .running => { l with followUp := false }
  | .off | .armed => l

/-- A target at STOP: the countdown of a removed pending probe restarts at 2^k (R13, R105). -/
def stoppedTarget (s : State) (t : Fin 32) : Target :=
  if probePending s t then { s.target t with countdown := (s.target t).fullCountdown } else s.target t

/-- An accepted STOP (R155): DRAINING, its reply deferred; DRAINING may end in the same happening (R156). -/
def stop (tag : Byte) (s : State) : State :=
  finishDrain []
    { s with op := .draining
             stopTag := some tag
             drainCancelled := 0
             evaluationOwed := false
             targets := Table.ofFn (stoppedTarget s)
             lanes := s.lanes.map Lane.stopped
             lines := s.lines.map Line.stopped }

/-- STOP, admitted. -/
def runStop (tag : Byte) (body : List Byte) (s : State) : State :=
  carryOut tag 0x06 (checkEmpty OpState.legalInRunning body s) (fun _ => stop tag) s

/-- STOP (R155). -/
def execStop (tag : Byte) (body : List Byte) (s : State) : Host.Outcome State Fault Refusal :=
  hostCommand 0x06 tag (runStop tag body) s

/-! ### RESET (R157) -/

/-- An accepted RESET (R157): its reply is ready and the receiver is off. -/
def resetCommand (tag : Byte) (s : State) : State :=
  makeReady ⟨.resetCommand, replyKind 0x04, tag, [ReplyStatus.ok.code]⟩ { s with receiver := Receiver.hunting false }

/-- RESET, admitted. -/
def runReset (tag : Byte) (body : List Byte) (s : State) : State :=
  carryOut tag 0x04 (checkEmpty OpState.legalAlways body s) (fun _ => resetCommand tag) s

/-- RESET (R157). -/
def execReset (tag : Byte) (body : List Byte) (s : State) : Host.Outcome State Fault Refusal :=
  hostCommand 0x04 tag (runReset tag body) s

/-! ### The part reset (R152) -/

/-- The rate that the strap levels RATE1 and RATE0 select (R129). -/
def strapRate (rate1 rate0 : Bool) : BitRate :=
  match rate1, rate0 with
  | false, false => .r115200
  | false, true => .r460800
  | true, false => .r921600
  | true, true => .r3000000

/-- A part reset in one happening (R152): every block takes its reset values, everything in progress or owed is lost.
The queue of the model, the pins, the rate and the choices of the surroundings stay. -/
def partReset (cause : ResetCause) (s : State) : State :=
  { State.reset with
      pending := s.pending
      heldInReset := s.heldInReset
      supplyUp := s.supplyUp
      resetCause := cause
      alertPins := s.alertPins
      rate := s.rate
      script := s.script
      draws := s.draws }

/-- The part is held in reset (R152). -/
def holdInReset (cause : ResetCause) (s : State) : State := { partReset cause s with heldInReset := true }

/-- POWER_ON (R152): the supply comes up and the part is held in reset. -/
def execPowerOn (s : State) : Host.Outcome State Fault Refusal :=
  .next { holdInReset .powerOn s with supplyUp := true }

/-- RESET_INPUT (R152): RSTn goes low. -/
def execResetInput (s : State) : Host.Outcome State Fault Refusal := .next (holdInReset .resetPin s)

/-- SUPPLY_BELOW_OPERATING_LEVEL (R152): the part is held in reset; the supply coming up again is a power-on. -/
def execSupplyBelowOperatingLevel (s : State) : Host.Outcome State Fault Refusal :=
  .next { holdInReset .powerOn s with supplyUp := false }

/-- RESET_RELEASE (R152): with the supply up, the reset ends, the straps are read and the part enters INIT. -/
def execResetRelease (rate1 rate0 : Bool) (s : State) : Host.Outcome State Fault Refusal :=
  if s.heldInReset = true ∧ s.supplyUp = true then
    .next { partReset s.resetCause s with heldInReset := false, rate := strapRate rate1 rate0 }
  else .next s

/-- INIT_END (R152): an ANNOUNCE becomes pending, the part enters STANDBY and the arbiter takes the ANNOUNCE. -/
def execInitEnd (s : State) : Host.Outcome State Fault Refusal :=
  if s.op = .init ∧ s.heldInReset = false then finish { s with op := .standby, announcePending := true } else .next s

/-- The reset of the RESET command takes effect (R157, R152); the levels of the straps at this moment are a free
choice of the surroundings (notes/assumptions/21.md). -/
def commandReset (s : State) : State :=
  withChoice
    (fun picks u =>
      { partReset .resetCommand u with rate := strapRate (picks.getD 0 0 % 2 == 1) (picks.getD 1 0 % 2 == 1) }) s

end Sys2Proof.Machine
end

