-- ==== Sys2Proof/Machine/HostPort.lean ====
section
/-! DEFINITION. The Host Port: the receiver (R130, R131), the decoding of a good frame by its KIND (R142) and the end of
a transmission (R137, R141, R157). -/

namespace Sys2Proof.Machine

/-! ### Decoding (R142, 12.2) -/

/-- What an admitted frame does, by its KIND (R142, 12.2); none where the KIND names no command. -/
def commandOf (kind : Byte) : Option (Byte → List Byte → State → State) :=
  match kind.toNat with
  | 0x01 => some runPing
  | 0x02 => some runGetStatus
  | 0x03 => some runClearCounters
  | 0x04 => some runReset
  | 0x05 => some runStart
  | 0x06 => some runStop
  | 0x07 => some runSetCycle
  | 0x08 => some runDefinePoll
  | 0x09 => some runDeletePoll
  | 0x0A => some runSetPollState
  | 0x0B => some runReadPoll
  | 0x0C => some runSetLane
  | 0x0D => some runReadLane
  | 0x0E => some runLaneReset
  | 0x0F => some runBindTarget
  | 0x10 => some runUnbindTarget
  | 0x11 => some runReadTarget
  | 0x12 => some runSetTargetState
  | 0x13 => some runSubmit
  | 0x14 => some runCancel
  | 0x15 => some runFlushLane
  | 0x16 => some runSetAlert
  | 0x17 => some runReadAlert
  | 0x18 => some runGrant
  | _ => none

/-- An admitted frame is decoded and acted on; a KIND that names no command is answered BAD_KIND (R142). -/
def runFrame (kind tag : Byte) (body : List Byte) (s : State) : State :=
  match commandOf kind with
  | some run => run tag body s
  | none => deny tag kind .badKind s

/-! ### The receiver (R130, R131) -/

/-- The receiver returns to HUNT, its buffer empty and the gap timer stopped (R130, R131). -/
def toHunt (s : State) : State := { s with receiver := Receiver.hunting true }

/-- The complete frame in the buffer is judged (R130): `frame` is LENGTH through BODY, then the two CHECK bytes. -/
def judge (frame : List Byte) (s : State) : State :=
  let core := frame.take (frame.length - 2)
  let check := frame.drop (frame.length - 2)
  if crcBytes core = check then
    match core with
    | _ :: kind :: tag :: body => admission kind tag (runFrame kind tag body) (toHunt s)
    | _ => toHunt s
  else checkError (toHunt s)

/-- The receiver stores a byte and restarts the gap timer (R130). -/
def store (state : ReceiverState) (b : Byte) (expects : Nat) (s : State) : State :=
  { s with receiver := ⟨true, state, s.receiver.buffer ++ [b], expects, true⟩ }

/-- A byte is received, the receiver being on (R130). -/
def takeByte (b : Byte) (s : State) : State :=
  match s.receiver.state with
  | .hunt => if b = 0x5A then { s with receiver := ⟨true, .length, [], 0, true⟩ } else s
  | .length =>
    if 2 ≤ b.toNat ∧ b.toNat ≤ 250 then store .body b b.toNat s else lengthError (toHunt s)
  | .body =>
    if s.receiver.expects ≤ 1 then store .check b 2 s else store .body b (s.receiver.expects - 1) s
  | .check =>
    if s.receiver.expects ≤ 1 then judge (s.receiver.buffer ++ [b]) s
    else store .check b (s.receiver.expects - 1) s

/-- RECEIVE_BYTE (R130) with the character on HRX (R129): while the receiver is off the byte is discarded unexamined and
uncounted, and so is a byte whose start bit began before the receiver came on (R141). -/
def execReceiveByte (c : Character) (s : State) : Host.Outcome State Fault Refusal :=
  if s.receiver.on = true ∧ c.early = false then finish (takeByte (characterByte c) s) else .next s

/-- GAP_TIMEOUT (R131): the gap timer passes 2 ms in LENGTH, BODY or CHECK. -/
def execGapTimeout (s : State) : Host.Outcome State Fault Refusal :=
  if s.receiver.on = true ∧ s.receiver.gapRunning = true then finish (gapError (toHunt s)) else .next s

/-! ### The transmit line (R129) -/

/-- The level of HTX in bit-time `k`, counted from 0 at the start bit of the first byte of the frame in the output
buffer; the stop level from the frame's end on, and while nothing is being sent (R129, R137). -/
def State.htx (s : State) (k : Nat) : Bool :=
  match s.transmitter with
  | some frame => (frame.bytes.flatMap characterLevels).getD k stopLevel
  | none => stopLevel

/-! ### The end of a transmission (R137) -/

/-- What the end of a frame's transmission does besides freeing the transmitter: the ANNOUNCE turns the receiver on
(R141), the reply of the RESET command lets the reset take effect (R157). -/
def frameSent (content : FrameContent) (s : State) : State :=
  match content with
  | .announce => { s with receiver := Receiver.hunting true }
  | .reply .resetCommand => commandReset s
  | .reply .command | .reply .refusal | .notice | .result => s

/-- TRANSMIT_END (R137): the transmitter is free and the arbiter takes the next item (R136). -/
def execTransmitEnd (s : State) : Host.Outcome State Fault Refusal :=
  match s.transmitter with
  | some frame => finish (frameSent frame.content { s with transmitter := none })
  | none => .next s

end Sys2Proof.Machine
end

