-- ==== Sys2Proof/Machine/Dispatch.lean ====
section
/-! DEFINITION. The meaning of every command and event, one arm per row of spec/opcode_table.json. -/

namespace Sys2Proof.Machine

def exec (i : Instr) (s : State) : Host.Outcome State Fault Refusal :=
  match i with
  | .ping tag body => Sys2Proof.Machine.execPing tag body s
  | .getStatus tag body => Sys2Proof.Machine.execGetStatus tag body s
  | .clearCounters tag body => Sys2Proof.Machine.execClearCounters tag body s
  | .reset tag body => Sys2Proof.Machine.execReset tag body s
  | .start tag body => Sys2Proof.Machine.execStart tag body s
  | .stop tag body => Sys2Proof.Machine.execStop tag body s
  | .setCycle tag body => Sys2Proof.Machine.execSetCycle tag body s
  | .definePoll tag body => Sys2Proof.Machine.execDefinePoll tag body s
  | .deletePoll tag body => Sys2Proof.Machine.execDeletePoll tag body s
  | .setPollStatePause tag poll rest => Sys2Proof.Machine.execSetPollStatePause tag poll rest s
  | .setPollStateResume tag poll rest => Sys2Proof.Machine.execSetPollStateResume tag poll rest s
  | .readPoll tag body => Sys2Proof.Machine.execReadPoll tag body s
  | .setLane tag body => Sys2Proof.Machine.execSetLane tag body s
  | .readLane tag body => Sys2Proof.Machine.execReadLane tag body s
  | .laneReset tag body => Sys2Proof.Machine.execLaneReset tag body s
  | .bindTarget tag body => Sys2Proof.Machine.execBindTarget tag body s
  | .unbindTarget tag body => Sys2Proof.Machine.execUnbindTarget tag body s
  | .readTarget tag body => Sys2Proof.Machine.execReadTarget tag body s
  | .setTargetStateRevive tag target rest => Sys2Proof.Machine.execSetTargetStateRevive tag target rest s
  | .setTargetStateQuarantine tag target rest => Sys2Proof.Machine.execSetTargetStateQuarantine tag target rest s
  | .submit tag body => Sys2Proof.Machine.execSubmit tag body s
  | .cancel tag body => Sys2Proof.Machine.execCancel tag body s
  | .flushLane tag body => Sys2Proof.Machine.execFlushLane tag body s
  | .setAlertEnable tag line rest => Sys2Proof.Machine.execSetAlertEnable tag line rest s
  | .setAlertDisable tag line rest => Sys2Proof.Machine.execSetAlertDisable tag line rest s
  | .readAlert tag body => Sys2Proof.Machine.execReadAlert tag body s
  | .grant tag body => Sys2Proof.Machine.execGrant tag body s
  | .powerOn => Sys2Proof.Machine.execPowerOn s
  | .resetInput => Sys2Proof.Machine.execResetInput s
  | .resetRelease rate1 rate0 => Sys2Proof.Machine.execResetRelease rate1 rate0 s
  | .initEnd => Sys2Proof.Machine.execInitEnd s
  | .receiveByte c => Sys2Proof.Machine.execReceiveByte c s
  | .gapTimeout => Sys2Proof.Machine.execGapTimeout s
  | .transmitEnd => Sys2Proof.Machine.execTransmitEnd s
  | .cycleStart => Sys2Proof.Machine.execCycleStart s
  | .lookForWork lane => Sys2Proof.Machine.execLookForWork lane s
  | .attemptAddrNack lane => Sys2Proof.Machine.execAttemptAddrNack lane s
  | .stretchTimeout lane => Sys2Proof.Machine.execStretchTimeout lane s
  | .busStuck lane => Sys2Proof.Machine.execBusStuck lane s
  | .arbLost lane => Sys2Proof.Machine.execArbLost lane s
  | .transactionEnd lane result => Sys2Proof.Machine.execTransactionEnd lane result s
  | .recoveryEnd lane result => Sys2Proof.Machine.execRecoveryEnd lane result s
  | .recoverySclTimeout lane => Sys2Proof.Machine.execRecoverySclTimeout lane s
  | .drainRemoval lane => Sys2Proof.Machine.execDrainRemoval lane s
  | .alertInputChange line high => Sys2Proof.Machine.execAlertInputChange line high s
  | .alertFilterExpiry line => Sys2Proof.Machine.execAlertFilterExpiry line s
  | .alertEvaluation => Sys2Proof.Machine.execAlertEvaluation s
  | .supplyBelowOperatingLevel => Sys2Proof.Machine.execSupplyBelowOperatingLevel s

end Sys2Proof.Machine
end

