-- ==== Sys2Proof/Safety.lean ====
section
/-! DEFINITION. What counts as a safe state of the SC-440, and the terms in which the statements speak: the frame of a
host command, the conditions of admission, the lengths and the legality of commands, and the invariants of the spec. -/

namespace Sys2Proof

/-- KIND, TAG and BODY of the frame of a host command (12.2, 12.4), none for an event. -/
def Instr.hostFrame : Instr → Option (Byte × Byte × List Byte)
  | .ping t b => some (0x01, t, b)
  | .getStatus t b => some (0x02, t, b)
  | .clearCounters t b => some (0x03, t, b)
  | .reset t b => some (0x04, t, b)
  | .start t b => some (0x05, t, b)
  | .stop t b => some (0x06, t, b)
  | .setCycle t b => some (0x07, t, b)
  | .definePoll t b => some (0x08, t, b)
  | .deletePoll t b => some (0x09, t, b)
  | .setPollStatePause t p r => some (0x0A, t, p :: 0x00 :: r)
  | .setPollStateResume t p r => some (0x0A, t, p :: 0x01 :: r)
  | .readPoll t b => some (0x0B, t, b)
  | .setLane t b => some (0x0C, t, b)
  | .readLane t b => some (0x0D, t, b)
  | .laneReset t b => some (0x0E, t, b)
  | .bindTarget t b => some (0x0F, t, b)
  | .unbindTarget t b => some (0x10, t, b)
  | .readTarget t b => some (0x11, t, b)
  | .setTargetStateRevive t x r => some (0x12, t, x :: 0x00 :: r)
  | .setTargetStateQuarantine t x r => some (0x12, t, x :: 0x01 :: r)
  | .submit t b => some (0x13, t, b)
  | .cancel t b => some (0x14, t, b)
  | .flushLane t b => some (0x15, t, b)
  | .setAlertEnable t l r => some (0x16, t, l :: 0x01 :: r)
  | .setAlertDisable t l r => some (0x16, t, l :: 0x00 :: r)
  | .readAlert t b => some (0x17, t, b)
  | .grant t b => some (0x18, t, b)
  | .powerOn | .resetInput | .resetRelease _ _ | .initEnd | .receiveByte _ | .gapTimeout | .transmitEnd
  | .cycleStart | .lookForWork _ | .attemptAddrNack _ | .stretchTimeout _ | .busStuck _ | .arbLost _
  | .transactionEnd _ _ | .recoveryEnd _ _ | .recoverySclTimeout _ | .drainRemoval _ | .alertInputChange _ _
  | .alertFilterExpiry _ | .alertEvaluation | .supplyBelowOperatingLevel => none

end Sys2Proof

namespace Sys2Proof.Machine

/-! ### Admission, lengths and legality (R133, 12.4, R144) -/

/-- The receiver is on and a frame with this tag passes the three checks of admission (R133, R141). -/
abbrev Admits (s : State) (tag : Byte) : Prop :=
  s.receiver.on = true ∧ tag ≠ 0 ∧ tag ∉ s.inFlight ∧ s.inFlight.length < 8

/-- The state on which an admitted command acts: the receiver is back in HUNT (R130) and the tag is in flight (R133). -/
def admitted (tag : Byte) (s : State) : State :=
  { s with receiver := Receiver.hunting true, inFlight := s.inFlight ++ [tag] }

/-- The reply of an admitted command, its BODY from the status byte on, has joined the ready-reply list (R135). -/
def replied (tag kind : Byte) (body : List Byte) (s : State) : State :=
  { s with ready := s.ready ++ [⟨.command, kind, tag, body⟩] }

/-- An admitted command that fails a check is answered with that status, and nothing else changes (R143). -/
def denied (tag kind status : Byte) (s : State) : State := replied tag kind [status] (admitted tag s)

/-- A lane that a happening of R43 reaches in the operating state `op`: an IDLE lane in RUNNING owes a look for work. -/
def told (op : OpState) (l : Lane) : Lane := if op = .running ∧ l.state = .idle then { l with lookOwed := true } else l

/-- The countdown that a quarantine starts (R97): 2^k for k from 1 to 7, 0 for k = 0. -/
def countdownOf (k : Fin 8) : Nat := if k = 0 then 0 else 2 ^ k.val

/-- A revival probe of target `t` is running on some lane (R99). -/
abbrev ProbeRuns (s : State) (t : Fin 32) : Prop := ∃ i, ∃ x ∈ (s.lane i).txn, x.work = .probe ∧ x.target = t

/-- The running transaction `x` when the definition of poll entry `p` ends (R25, R85): a scheduled transaction of it is
marked discarded, an alert read of it will not write the snapshot. -/
def definitionEndMark (s : State) (p : Fin 48) (x : Transaction) : Transaction :=
  match x.work with
  | .poll q => if q = p then { x with discarded := true } else x
  | .alert l => if (s.line l).boundPoll = p then { x with definitionGone := true } else x
  | .job _ | .probe => x

/-- A lane after poll entry `p` has left its work list without a miss; the lane is told (R26, R27, R43). -/
def unlisted (op : OpState) (p : Fin 48) (l : Lane) : Lane :=
  if p ∈ l.workList then told op { l with workList := l.workList.filter (· != p) } else l

/-- A lane after the definition of poll entry `p` has ended (R24, R26): its running transaction is marked, and the entry
has left its work list. -/
def definitionEnded (s : State) (p : Fin 48) (l : Lane) : Lane :=
  unlisted s.op p { l with txn := l.txn.map (definitionEndMark s p) }

/-- The triggered line and the lane that gains its read (R82). -/
def triggeredAt (l : Fin 8) (s : State) : State :=
  { s with
      lines := s.lines.set l { s.line l with state := .pending, extraEdges := 0, followUp := false
                                             triggers := count16 (s.line l).triggers }
      lanes := s.lanes.set (lineLane s l)
        (told s.op { s.lane (lineLane s l) with alertTier := (s.lane (lineLane s l)).alertTier ++ [l] }) }

/-- A head of target `t` that lane `i` examines and leaves in its tier for want of result space: its cost does not exceed R
and its slot or its block is missing (R45, R46), or its target is QUARANTINED and no slot is free to settle it (R44). -/
abbrev HeadWaits (s : State) (i : Fin 4) (t : Fin 32) (op : Operation) (n : Nat) : Prop :=
  if (s.target t).state = .quarantined then 48 ≤ s.records.length + s.reservations
  else costOf op (s.target t).width.val n ≤ (s.lane i).remaining ∧
    (48 ≤ s.records.length + s.reservations ∨ (op = .read ∧ s.pool.free = 0))

/-- Lane `i` goes past its ALERT tier: it is closed or empty, or its head waits for result space (R42, R45, R46). -/
abbrev AlertTierPassed (s : State) (i : Fin 4) : Prop :=
  (s.lane i).closed.alert = true ∨ (s.lane i).alertTier = [] ∨
    ∃ a ∈ (s.lane i).alertTier.head?, HeadWaits s i (s.poll (s.line a).boundPoll).defn.target .read
      (s.poll (s.line a).boundPoll).defn.byteCount

/-- Lane `i` goes past its SCHEDULE tier: it is closed or empty, or its head, whose target is not QUARANTINED, waits for
result space (R42, R45, R46). -/
abbrev ScheduleTierPassed (s : State) (i : Fin 4) : Prop :=
  (s.lane i).closed.schedule = true ∨ (s.lane i).workList = [] ∨
    ∃ p ∈ (s.lane i).workList.head?, (s.target (s.poll p).defn.target).state ≠ .quarantined ∧
      HeadWaits s i (s.poll p).defn.target .read (s.poll p).defn.byteCount

/-- Lane `i` goes past its JOB tier: it is closed or empty, or its head waits for result space (R42, R45, R46). -/
abbrev JobTierPassed (s : State) (i : Fin 4) : Prop :=
  (s.lane i).closed.job = true ∨ (s.lane i).jobs = [] ∨
    ∃ j ∈ (s.lane i).jobs.head?, HeadWaits s i j.target j.kind j.byteCount

/-- From `s` to `u` a record slot or a pool block is freed (R106, R109, R110): more blocks are free, or fewer slots are
used. -/
abbrev SpaceFreed (s u : State) : Prop :=
  s.pool.free < u.pool.free ∨ u.records.length + u.reservations < s.records.length + s.reservations

/-- The condition that ends DRAINING (R156): no lane BUSY or RECOVERING, no line RUNNING, every job queue empty. -/
abbrev DrainOver (s : State) : Prop :=
  (∀ i, (s.lane i).state ≠ .busy ∧ (s.lane i).state ≠ .recovering ∧ (s.lane i).jobs = []) ∧
    ∀ l, (s.line l).state ≠ .running

/-- The BODY of the STOP reply (R156): OK, Last Cycle, Jobs Cancelled. -/
def stopBody (s : State) : List Byte := 0x00 :: (word s.cycle.toNat ++ [byte s.drainCancelled])

/-- The BODY lengths that a command's kind allows (12.4, R147, R67). -/
def lengthAllowed (kind : Byte) (body : List Byte) : Bool :=
  match kind.toNat with
  | 0x01 => decide (body.length ≤ 247)
  | 0x02 | 0x04 | 0x05 | 0x06 => body.length == 0
  | 0x03 | 0x07 | 0x09 | 0x0B | 0x0D | 0x0E | 0x10 | 0x11 | 0x15 | 0x17 | 0x18 => body.length == 1
  | 0x0A | 0x12 | 0x14 => body.length == 2
  | 0x0C | 0x16 => body.length == 6
  | 0x0F => body.length == 7
  | 0x08 => body.length == 13
  | 0x13 =>
    decide (5 ≤ body.length) &&
      body.length == 5 + (if body.getD 1 0 = 0x01 then (body.getD 4 0).toNat else 0)
  | _ => false

/-- The operating states in which a command is legal (R144). -/
def legalIn (kind : Byte) (op : OpState) : Bool :=
  match kind.toNat with
  | 0x05 | 0x07 | 0x0C => op == .standby
  | 0x06 | 0x13 => op == .running
  | _ => op != .init

/-- Bytes received one after the other as characters in order, with no other happening between them (R129, R130). -/
def feed : List Byte → State → Host.Outcome State Fault Refusal
  | [], s => .next s
  | b :: rest, s =>
    match exec (.receiveByte (characterOf b)) s with
    | .next t => feed rest t
    | .fault r => .fault r
    | .refused r => .refused r

/-! ### The arbiter has acted (R136) -/

/-- The Outbound Arbiter has nothing to take: a frame is being sent, or no item can be taken. -/
abbrev Settled (s : State) : Prop := arbitrate s = s

/-! ### Targets (R1, R94, R97, R99) -/

/-- A target entry that the rules permit: FREE with zeros, ONLINE with F = 0, SUSPECT with F from 1 to 15, QUARANTINED
with any F and a countdown of at most 2^k. -/
def Target.Sound (t : Target) : Prop :=
  match t.state with
  | .free => t = Target.free
  | .online => t.failures = 0 ∧ t.countdown = 0
  | .suspect => 1 ≤ t.failures ∧ t.failures ≤ 15 ∧ t.countdown = 0
  | .quarantined => t.failures ≤ 15 ∧ t.countdown ≤ t.fullCountdown

/-- The revival probes of a lane's PROBE tier are of QUARANTINED targets of the lane, at most one per target, none of
them running (R42, R44, R99). -/
def ProbesSound (s : State) (i : Fin 4) : Prop :=
  (s.lane i).probeTier.Nodup ∧
    ∀ t ∈ (s.lane i).probeTier, (s.target t).state = .quarantined ∧ (s.target t).lane = i ∧ probeRunning s t = false

/-- Target health (R94) with the revival probes (R99). -/
def HealthInv (s : State) : Prop := (∀ t, (s.target t).Sound) ∧ ∀ i, ProbesSound s i

/-- No two bound entries share lane and bus address (R4). -/
def BindingInv (s : State) : Prop :=
  ∀ t u, t ≠ u → (s.target t).state ≠ .free → (s.target u).state ≠ .free →
    ¬((s.target t).lane = (s.target u).lane ∧ (s.target t).busAddress = (s.target u).busAddress)

/-! ### Polls and work lists (R19, R29) -/

/-- The definition fields of an ACTIVE or PAUSED entry are in their ranges (R19). -/
def PollDef.InRange (d : PollDef) : Prop :=
  1 ≤ d.byteCount ∧ d.byteCount ≤ 32 ∧ d.phase < 2 ^ d.periodExponent.val ∧
    (d.mode = .delta → 2 ≤ d.byteCount ∧ 1 ≤ d.threshold ∧ d.threshold ≤ 32767) ∧
    (d.mode ≠ .delta → d.threshold = 0 ∧ d.order = .big)

/-- Every defined entry is in range and names a bound target (R19, R5), and every work list holds ACTIVE polls of its
lane's targets, each at most once (R29). -/
def ScheduleInv (s : State) : Prop :=
  (∀ p, (s.poll p).state ≠ .free →
    (s.poll p).defn.InRange ∧ (s.target (s.poll p).defn.target).state ≠ .free) ∧
  ∀ i, (s.lane i).workList.Nodup ∧ ∀ p ∈ (s.lane i).workList, (s.poll p).state = .active ∧ pollLane s p = i

/-! ### Lanes (R17, R36, R37, R40) -/

/-- Settings in range, C and B derived from them, and R at most C (R17, R36, R40). -/
def CapacityInv (s : State) : Prop :=
  1 ≤ s.interval ∧ s.interval ≤ 250 ∧
    ∀ i, 1 ≤ (s.lane i).stretchLimit ∧ (s.lane i).stretchLimit ≤ 255 ∧
      10 ≤ (s.lane i).pollShare ∧ (s.lane i).pollShare ≤ 90 ∧
      (s.lane i).capacity = s.interval * (s.lane i).speed.kbits / 10 ∧
      (s.lane i).budget = (s.lane i).capacity * (s.lane i).pollShare / 100 ∧
      (s.lane i).remaining ≤ (s.lane i).capacity

/-! ### Jobs (R65, R66) -/

/-- A queued job of lane `i`: its number is a job number, its target is bound on the lane, and it holds a Data Block of
Byte Count bytes exactly when it is a WRITE of one byte or more (R65). -/
def Job.Sound (j : Job) (s : State) (i : Fin 4) : Prop :=
  1 ≤ j.number ∧ j.number ≤ 65535 ∧ (s.target j.target).state ≠ .free ∧ (s.target j.target).lane = i ∧
    j.byteCount ≤ 32 ∧ (j.data.isSome = true ↔ j.kind = .write ∧ 1 ≤ j.byteCount) ∧
    (j.data.getD []).length = (if j.kind = .write then j.byteCount else 0)

/-- At most 8 jobs in a queue, and no two jobs that exist share a number (R65, R66). -/
def JobInv (s : State) : Prop :=
  (∀ i, (s.lane i).jobs.length ≤ 8 ∧ ∀ j ∈ (s.lane i).jobs, j.Sound s i) ∧
    (heldNumbers s).Nodup ∧ 1 ≤ s.nextJob ∧ s.nextJob ≤ 65535

/-! ### Alert lines (R79, R80, R81) -/

/-- The alert line that the running transaction of lane `i` serves. -/
def alertServed (s : State) (i : Fin 4) : Option (Fin 8) :=
  match (s.lane i).txn with
  | some x => match x.work with
    | .alert l => some l
    | .poll _ | .job _ | .probe => none
  | none => none

/-- Enabled, Closing and State of a line agree (R79, R90), and a line not enabled has its Filtered Level inactive
(R80). -/
def Line.Sound (l : Line) : Prop :=
  (l.enabled = true → l.state ≠ .off ∧ l.closing = false) ∧
    (l.enabled = false → l.level = false ∧ (l.state = .off ∨ (l.state = .running ∧ l.closing = true)))

/-- A line is in the ALERT tier of its lane exactly when it is PENDING, once, and is RUNNING exactly when it is the
source of the transaction of one lane (R81); an enabled line is bound to a defined entry with a bound target (R26). -/
def AlertInv (s : State) : Prop :=
  (∀ l, (s.line l).Sound ∧
    ((s.line l).enabled = true → (s.poll (s.line l).boundPoll).state ≠ .free) ∧
    ((s.line l).state = .running ↔ ∃ i, alertServed s i = some l)) ∧
  (∀ i l, l ∈ (s.lane i).alertTier ↔ (s.line l).state = .pending ∧ lineLane s l = i) ∧
  (∀ i, (s.lane i).alertTier.Nodup ∧ ((s.lane i).state = .busy ↔ (s.lane i).txn.isSome = true)) ∧
  (∀ i k l, alertServed s i = some l → alertServed s k = some l → i = k) ∧
  ∀ p, (s.poll p).state ≠ .free → (s.target (s.poll p).defn.target).state ≠ .free

/-! ### Buffer Pool and record slots (R106, R109) -/

/-- Blocks held by a job (R106). -/
def Job.blocks (j : Job) : Nat := if j.data.isSome then 1 else 0

/-- Blocks held by a lane: its queued jobs, its running job and its Reservation (R106). -/
def Lane.blocks (l : Lane) : Nat :=
  (l.jobs.map Job.blocks).sum + (l.runningJob.toList.map Job.blocks).sum +
    (if l.reservation = .slotAndBlock then 1 else 0)

/-- Blocks held by a record (R106). -/
def Record.blocks (r : Record) : Nat := if r.data.isSome then 1 else 0

/-- Blocks held in the whole part (R106). -/
def State.heldBlocks (s : State) : Nat := (s.lanes.toList.map Lane.blocks).sum + (s.records.map Record.blocks).sum

/-- The Operation of a transaction is the one its Kind runs (R47, R50), and only a WRITE job has a Data Block (R65). -/
def Transaction.Sound (x : Transaction) : Prop :=
  match x.work with
  | .poll _ | .alert _ => x.op = .read
  | .job j => x.op = j.kind ∧ (j.data.isSome = true → j.kind = .write)
  | .probe => x.op = .probe

/-- A lane is BUSY exactly when it has a transaction (R37), and holds the Reservation of that transaction (R109). -/
def Lane.Sound (l : Lane) : Prop :=
  (l.state = .busy ↔ l.txn.isSome = true) ∧
    (match l.txn with
     | some x => x.Sound ∧ l.reservation = reservationFor x.work x.op
     | none => l.reservation = .none) ∧
    ∀ j ∈ l.jobs, j.data.isSome = true → j.kind = .write

/-- Free blocks plus held blocks are 64 (R106), the low-water mark is at most the free-block count, and records plus
reservations never exceed 48 (R109). -/
def SpaceInv (s : State) : Prop :=
  (∀ i, (s.lane i).Sound) ∧ s.pool.free + s.heldBlocks = 64 ∧ s.pool.lowWater ≤ s.pool.free ∧
    s.records.length + s.reservations ≤ 48

/-! ### Keep-latest links (R117) -/

/-- A Waiting Record link names a POLL record of the entry with the Generation of the definition in force, and only a
keep-latest entry has one (R117); a running poll transaction that is not discarded is of that definition too (R25). -/
def LinkInv (s : State) : Prop :=
  (∀ p, match (s.poll p).link with
    | none => True
    | some k => (s.poll p).defn.keepLatest = true ∧
        match s.records[k]? with
        | some ⟨.poll q g _, _, _, _, _⟩ => q = p ∧ g = (s.poll p).generation
        | some _ | none => False) ∧
  ∀ i, match (s.lane i).txn with
    | some x => match x.work with
      | .poll p => x.discarded = false → x.generation = (s.poll p).generation
      | .alert _ | .job _ | .probe => True
    | none => True

/-! ### Notices (R122) -/

/-- At most 16 notices, never two for one key, Occurrences from 1 to 255, and Lost Notices at most 255 (R122). -/
def NoticeInv (s : State) : Prop :=
  s.notices.length ≤ 16 ∧ (s.notices.map fun n => n.body.key).Nodup ∧
    (∀ n ∈ s.notices, 1 ≤ n.occurrences ∧ n.occurrences ≤ 255) ∧ s.lostNotices ≤ 255

/-! ### Tags and replies (R133, R134, R146) -/

/-- The tags whose commands are still owed the taking of a reply: ready replies of admitted commands, the deferred STOP
and the waiting LANE_RESETs (R133, R146). -/
def owedTags (s : State) : List Byte :=
  ((s.ready.filter fun r => r.origin != .refusal).map fun r => r.tag) ++ s.stopTag.toList ++
    s.lanes.toList.flatMap fun l => l.waitingResets

/-- The in-flight tag set holds at most 8 tags, never 0, never one twice, and exactly the tags still owed a reply; the
refusal list holds at most 4 entries; a STOP reply is owed exactly in DRAINING (R133, R134, R146). -/
def TagInv (s : State) : Prop :=
  s.inFlight.length ≤ 8 ∧ (0 : Byte) ∉ s.inFlight ∧ s.inFlight.Nodup ∧ s.inFlight.Perm (owedTags s) ∧
    s.refusals.length ≤ 4 ∧ (s.stopTag.isSome = true ↔ s.op = .draining)

/-! ### The receiver and the credit (R130, R138) -/

/-- The buffer, the count of bytes expected and the gap timer agree with the receiver's state (R130, 9.2). -/
def Receiver.Sound (r : Receiver) : Prop :=
  match r.state, r.buffer with
  | .hunt, [] => r.expects = 0 ∧ r.gapRunning = false
  | .length, [] => r.expects = 0 ∧ r.gapRunning = true ∧ r.on = true
  | .body, n :: rest =>
    2 ≤ n.toNat ∧ n.toNat ≤ 250 ∧ 1 ≤ r.expects ∧ rest.length + r.expects = n.toNat ∧ r.gapRunning = true ∧ r.on = true
  | .check, n :: rest =>
    2 ≤ n.toNat ∧ n.toNat ≤ 250 ∧ 1 ≤ r.expects ∧ r.expects ≤ 2 ∧ rest.length + r.expects = n.toNat + 2 ∧
      r.gapRunning = true ∧ r.on = true
  | .hunt, _ :: _ | .length, _ :: _ | .body, [] | .check, [] => False

/-- The receiver is sound (R130), and the credit is at most 4095 (R138). -/
def PortInv (s : State) : Prop := s.receiver.Sound ∧ s.credit ≤ 4095

/-! ### Operating states (R151, R64, R76, R93) -/

/-- Every block has its reset values (R152): the pins, the cause of the reset, the strapped rate and the model's own
fields aside. -/
def InReset (s : State) : Prop :=
  s = { State.reset with
          pending := s.pending, heldInReset := s.heldInReset, supplyUp := s.supplyUp, resetCause := s.resetCause,
          alertPins := s.alertPins, rate := s.rate, script := s.script, draws := s.draws }

/-- Outside RUNNING no work list, no pending probe, no pending alert read and no evaluation owed; in DRAINING every
queued job is marked; in STANDBY and INIT no queued job, no BUSY lane and no RUNNING line; in INIT every block has its
reset values (R151, R152, R64, R76, R93). -/
def QuietInv (s : State) : Prop :=
  (s.op ≠ .running →
    (∀ i, (s.lane i).workList = [] ∧ (s.lane i).probeTier = [] ∧ (s.lane i).alertTier = []) ∧
    (∀ l, (s.line l).state ≠ .pending ∧ (s.line l).state ≠ .holdoff) ∧ s.evaluationOwed = false) ∧
  (s.op = .draining → ∀ i, ∀ j ∈ (s.lane i).jobs, j.cancelling = true) ∧
  (s.op = .standby ∨ s.op = .init →
    (∀ i, (s.lane i).jobs = [] ∧ (s.lane i).state ≠ .busy) ∧ ∀ l, (s.line l).state ≠ .running) ∧
  (s.op = .init → InReset s) ∧ (s.heldInReset = true → s.op = .init)

end Sys2Proof.Machine
end

