-- ==== Sys2Proof/Certificates/Slice0/Obligations.lean ====
section
/-! DEFINITION. The statements for the provers. Except where a docstring says that a clause is the model's choice, each
follows the rules of spec/ that it names. A state after a command is written in full, so the statement says as well what
the command leaves unchanged; `arbitrate` is the Outbound Arbiter (R136), which acts at the end of each of them and is
itself the subject of `TransmitEndTakesNextItem`. -/

open Sys2Proof Sys2Proof.Machine

/-! ### Steps and happenings -/

/-- A step takes the command at the front of the queue and carries it out with the queue's rest (the model's queue). -/
def Obligations.StepRunsFrontCommand : Prop :=
  ∀ (c : Instr) (rest : List Instr) (s : State), step { s with pending := c :: rest } = exec c { s with pending := rest }

/-- Every command and event, with any operands and in any state, answers a next state, and leaves the queue of waiting
commands as it is. R142 and R143 say so of an admitted host command; that a command with the receiver off, an event that
cannot come about and an impossible bus result answer the state as it stands is the model's reading
(notes/assumptions/1.md, 6.md, 23.md). -/
def Obligations.EveryHappeningCompletes : Prop :=
  ∀ (c : Instr) (s : State), ∃ t, exec c s = .next t ∧ t.pending = s.pending

/-! ### The receiver and admission (R130 to R134, R141 to R144, R158) -/

/-- The bytes of a command's frame (12.1), received one after the other in HUNT, carry the command out: the receiver hands
the good frame over in the happening of its second CHECK byte (R130, R142). -/
def Obligations.FrameBytesCarryOutCommand : Prop :=
  ∀ (i : Instr) (kind tag : Byte) (body : List Byte), i.hostFrame = some (kind, tag, body) → i.wellFormed = true →
    ∀ s : State, s.receiver = Receiver.hunting true → Settled s →
    feed (frameBytes kind tag body) s = exec i s

/-- A good frame that no row of the table carries. Where it is admitted: a KIND that is no command code is answered BAD_KIND
(R142), a frame of SET_POLL_STATE, SET_TARGET_STATE or SET_ALERT whose BODY has another length than the command's, too
short for its action byte or not, BAD_LENGTH (R143), and one of the command's length whose action or Enabled byte is
outside its codes BAD_VALUE (R27, R101, R88). Where it fails a check of admission (R133) a frame of any KIND is refused, the
kind of the refusal being 80h for 40h to 42h, or counted as an OVERRUN where four refusals wait (R134). -/
def Obligations.OtherGoodFramesAreAnswered : Prop :=
  ∀ (kind tag : Byte) (body : List Byte) (s : State),
    s.receiver = Receiver.hunting true → Settled s → body.length ≤ 248 → ∀ reply : Byte,
    reply = (if kind = 0x40 ∨ kind = 0x41 ∨ kind = 0x42 then 0x80 else kind + 0x80) →
    (Admits s tag → s.op ≠ .init →
      (kind = 0 ∨ 0x19 ≤ kind.toNat →
        feed (frameBytes kind tag body) s = .next (arbitrate (denied tag reply 0x04 s))) ∧
      (((kind = 0x0A ∨ kind = 0x12) ∧ body.length ≠ 2) ∨ (kind = 0x16 ∧ body.length ≠ 6) →
        feed (frameBytes kind tag body) s = .next (arbitrate (denied tag reply 0x05 s))) ∧
      (∀ x y, 2 ≤ y.toNat → (kind = 0x0A ∨ kind = 0x12) → body = [x, y] →
        feed (frameBytes kind tag body) s = .next (arbitrate (denied tag reply 0x06 s))) ∧
      (∀ x y a b c d, 2 ≤ y.toNat → kind = 0x16 → body = [x, y, a, b, c, d] →
        feed (frameBytes kind tag body) s = .next (arbitrate (denied tag reply 0x06 s)))) ∧
    (∀ status : Byte,
      (if tag = 0 then some 0x03 else if tag ∈ s.inFlight then some 0x02
        else if 8 ≤ s.inFlight.length then some 0x01 else none) = some status →
      feed (frameBytes kind tag body) s = .next (arbitrate (
        if (s.ready.filter fun r => r.origin == .refusal).length < 4 then
          { s with ready := s.ready ++ [⟨.refusal, reply, tag, [status]⟩] }
        else post (.hostErrors ⟨0, 0, 0, 1⟩)
          { s with errors := { s.errors with overrun := count16 s.errors.overrun } })))

/-- What the receiver does with a received character, by its state (R130, R131): its data bits, least significant bit first,
are the byte, whatever the level found at its stop bit (R129); while the receiver is off, and where the start bit began
before the receiver came on, the byte is discarded (R141). The gap timer passing 2 ms in LENGTH, BODY or CHECK is a GAP
error; that nothing happens while it does not run is the model's reading (notes/assumptions/6.md). The frame whose CHECK
agrees is the subject of `FrameBytesCarryOutCommand`. HTX sends the bytes of the output buffer in such characters, 10
bit-times each, and is at the stop level when nothing is being sent (R129). -/
def Obligations.ReceiverTakesByte : Prop :=
  (∀ (c : Character) (i : Fin 8), (characterByte c).getLsbD i.val = c.data.get i) ∧
  (∀ (c : Character) (b : Byte), b = characterByte c → ∀ s : State,
     (s.receiver.on = false ∨ c.early = true → exec (.receiveByte c) s = .next s) ∧
     (s.receiver.on = true → c.early = false →
       (s.receiver.state = .hunt →
         exec (.receiveByte c) s =
           .next (arbitrate (if b = 0x5A then { s with receiver := ⟨true, .length, [], 0, true⟩ } else s))) ∧
       (s.receiver.state = .length →
         exec (.receiveByte c) s = .next (arbitrate (
           if 2 ≤ b.toNat ∧ b.toNat ≤ 250 then
             { s with receiver := ⟨true, .body, s.receiver.buffer ++ [b], b.toNat, true⟩ }
           else post (.hostErrors ⟨0, 1, 0, 0⟩)
             { s with receiver := Receiver.hunting true
                      errors := { s.errors with length := count16 s.errors.length } }))) ∧
       (s.receiver.state = .body →
         (2 ≤ s.receiver.expects →
           exec (.receiveByte c) s = .next (arbitrate
             { s with receiver := ⟨true, .body, s.receiver.buffer ++ [b], s.receiver.expects - 1, true⟩ })) ∧
         (s.receiver.expects = 1 →
           exec (.receiveByte c) s = .next (arbitrate
             { s with receiver := ⟨true, .check, s.receiver.buffer ++ [b], 2, true⟩ }))) ∧
       (s.receiver.state = .check →
         (s.receiver.expects = 2 →
           exec (.receiveByte c) s = .next (arbitrate
             { s with receiver := ⟨true, .check, s.receiver.buffer ++ [b], 1, true⟩ })) ∧
         (∀ core x, s.receiver.buffer = core ++ [x] → s.receiver.expects = 1 → crcBytes core ≠ [x, b] →
           exec (.receiveByte c) s = .next (arbitrate (post (.hostErrors ⟨0, 0, 1, 0⟩)
             { s with receiver := Receiver.hunting true
                      errors := { s.errors with check := count16 s.errors.check } })))))) ∧
  (∀ s : State, s.receiver.on = true →
     exec .gapTimeout s =
       if s.receiver.gapRunning = true then
         .next (arbitrate (post (.hostErrors ⟨1, 0, 0, 0⟩)
           { s with receiver := Receiver.hunting true
                    errors := { s.errors with gap := count16 s.errors.gap } }))
       else .next s) ∧
  (∀ s : State,
     (∀ frame, s.transmitter = some frame →
       (∀ (n : Nat) (b : Byte), frame.bytes[n]? = some b →
         s.htx (10 * n) = false ∧ (∀ i : Fin 8, s.htx (10 * n + 1 + i.val) = b.getLsbD i.val) ∧
         s.htx (10 * n + 9) = true) ∧
       ∀ k, 10 * frame.bytes.length ≤ k → s.htx k = true) ∧
     (s.transmitter = none → ∀ k, s.htx k = true))

/-- The three checks of admission in their order (R133) and what becomes of a frame that fails one (R134): a refusal, or
an OVERRUN where four refusals wait. While the receiver is off no frame is handed over (R141), so the
row has no effect then (notes/assumptions/1.md). -/
def Obligations.AdmissionRefusals : Prop :=
  ∀ (i : Instr) (kind tag : Byte) (body : List Byte), i.hostFrame = some (kind, tag, body) → ∀ s : State,
    (s.receiver.on = false → exec i s = .next s) ∧
    ∀ status : Byte,
      (if tag = 0 then some 0x03 else if tag ∈ s.inFlight then some 0x02
        else if 8 ≤ s.inFlight.length then some 0x01 else none) = some status → s.receiver.on = true →
      exec i s = .next (arbitrate (
        if (s.ready.filter fun r => r.origin == .refusal).length < 4 then
          { s with receiver := Receiver.hunting true
                   ready := s.ready ++ [⟨.refusal, kind + 0x80, tag, [status]⟩] }
        else post (.hostErrors ⟨0, 0, 0, 1⟩)
          { s with receiver := Receiver.hunting true
                   errors := { s.errors with overrun := count16 s.errors.overrun } }))

/-- The first two steps of the validation order (R143): an admitted command whose BODY has a length that its kind does
not allow (12.4) is answered BAD_LENGTH, and one that is not legal in the operating state (R144) WRONG_STATE; nothing
else changes. -/
def Obligations.LengthThenStateRefusals : Prop :=
  ∀ (i : Instr) (kind tag : Byte) (body : List Byte), i.hostFrame = some (kind, tag, body) →
    ∀ s : State, Admits s tag → s.op ≠ .init →
    (lengthAllowed kind body = false → exec i s = .next (arbitrate (denied tag (kind + 0x80) 0x05 s))) ∧
    (lengthAllowed kind body = true → legalIn kind s.op = false →
      exec i s = .next (arbitrate (denied tag (kind + 0x80) 0x07 s)))

/-! ### The transmitter and the arbiter (R136 to R141, R120, R126, R157) -/

/-- The end of a transmission frees the transmitter, and the next item is taken (R136, R137): the ANNOUNCE, the oldest
ready reply with its tag leaving the set (R133), and against credit the head notice with the Lost Notices value (R126) or
the head record with its slot, block and link (R120), each of these two with one credit (R138) and one sequence number
(R139). While a frame is being sent nothing is taken (R136, R137). The frames have the layouts of 12.1 and 12.5 with the
codes of 12.6, absent fields sent as 0 and quantities high byte first (R111, R159); the CHECK starts at FFFFh, takes each
byte most significant bit first with the generator polynomial 1021h, and gives 29B1h over 31h to 39h (R158). -/
def Obligations.TransmitEndTakesNextItem : Prop :=
  (∀ (s : State) (frame : OutFrame), s.transmitter = some frame →
     frame.content ≠ .announce → frame.content ≠ .reply .resetCommand →
     (s.announcePending = true →
       exec .transmitEnd s = .next
         { s with announcePending := false
                  transmitter := some ⟨.announce, frameBytes 0xC2 0 (announceBody s.resetCause)⟩ }) ∧
     (s.announcePending = false →
       (∀ r rest, s.ready = r :: rest →
         exec .transmitEnd s = .next
           { s with ready := rest
                    inFlight := if r.origin = .refusal then s.inFlight else s.inFlight.erase r.tag
                    transmitter := some ⟨.reply r.origin, frameBytes r.kind r.tag r.body⟩ }) ∧
       (s.ready = [] →
         (s.credit = 0 ∨ (s.notices = [] ∧ s.records = []) →
           exec .transmitEnd s = .next { s with transmitter := none }) ∧
         (1 ≤ s.credit →
           (∀ n rest, s.notices = n :: rest →
             exec .transmitEnd s = .next
               { s with notices := rest
                        lostNotices := 0
                        credit := s.credit - 1
                        sequence := s.sequence + 1
                        transmitter := some
                          ⟨.notice, frameBytes 0xC1 0 (noticeBody s.sequence s.lostNotices n)⟩ }) ∧
           (∀ r rest, s.records = r :: rest → s.notices = [] →
             exec .transmitEnd s = .next
               { s with records := rest
                        polls := s.polls.map fun p =>
                          { p with link := match p.link with | some (k + 1) => some k | _ => none }
                        pool := { s.pool with free := s.pool.free + (if r.data.isSome then 1 else 0) }
                        lanes := s.lanes.map (told s.op)
                        credit := s.credit - 1
                        sequence := s.sequence + 1
                        transmitter := some ⟨.result, frameBytes 0xC0 0 (resultBody s.sequence r)⟩ }))))) ∧
  (∀ (s : State) (frame : OutFrame), s.transmitter = some frame → arbitrate s = s) ∧
  (∀ two : Nat → List Byte, two = (fun n => [BitVec.ofNat 8 (n / 256), BitVec.ofNat 8 n]) →
     (∀ (seq : Word16) (t : Fin 32) (c : Word16) (st : RecordStatus) (d : Option (List Byte)) (tail : List Byte),
        tail = BitVec.ofNat 8 (d.getD []).length :: d.getD [] →
        (∀ (p : Fin 48) (g : Byte) (n : Nat),
           resultBody seq ⟨.poll p g n, t, c, st, d⟩ =
             two seq.toNat ++ [0x00, 0, byte p.val, g, 0, byte t.val] ++ two c.toNat ++ [st.code, 0, byte n, 0] ++ tail) ∧
        (∀ (a : Fin 8) (g : Byte) (n : Nat),
           resultBody seq ⟨.alert a g n, t, c, st, d⟩ =
             two seq.toNat ++ [0x01, 0, byte a.val, g, 0, byte t.val] ++ two c.toNat ++ [st.code, 0, 0, byte n] ++ tail) ∧
        ∀ (j : Nat) (tag : Byte) (n : Nat),
           resultBody seq ⟨.job j tag n, t, c, st, d⟩ =
             two seq.toNat ++ [0x02] ++ two j ++ [0, tag, byte t.val] ++ two c.toNat ++ [st.code, byte n, 0, 0] ++ tail) ∧
     (∀ (seq : Word16) (lost k : Nat),
        (∀ (i : Fin 4) (st : LaneState) (cause : LaneCause),
           noticeBody seq lost ⟨.laneState i st cause, k⟩ =
             two seq.toNat ++ [byte lost, 0x00, byte i.val, byte k, st.code, cause.code]) ∧
        (∀ (t : Fin 32) (st : TargetState) (f : Nat),
           noticeBody seq lost ⟨.targetState t st f, k⟩ =
             two seq.toNat ++ [byte lost, 0x01, byte t.val, byte k, st.code, byte f]) ∧
        (∀ (i : Fin 4) (m : Misses) (slips : Nat),
           noticeBody seq lost ⟨.laneLoad i m slips, k⟩ =
             two seq.toNat ++ [byte lost, 0x02, byte i.val, byte k] ++ two m.shed ++ two m.late ++ two m.quarantined
               ++ two m.laneDown ++ two slips) ∧
        ∀ e : HostErrors,
           noticeBody seq lost ⟨.hostErrors e, k⟩ =
             two seq.toNat ++ [byte lost, 0x03, 0, byte k] ++ two e.gap ++ two e.length ++ two e.check
               ++ two e.overrun) ∧
     (∀ cause : ResetCause, announceBody cause = [cause.code, 0x01, 0x04, 0x20, 0x30, 0x08, 0x40, 0x30, 0x10, 0x08]) ∧
     ∀ (kind tag : Byte) (body core : List Byte), core = BitVec.ofNat 8 (body.length + 2) :: kind :: tag :: body →
       frameBytes kind tag body = 0x5A :: (core ++ two (crc core).toNat)) ∧
  ([RecordStatus.ok, .addrNack, .dataNack, .stretchTimeout, .arbLost, .busStuck, .aborted, .cancelled, .quarantined].map
      RecordStatus.code = [0x00, 0x01, 0x02, 0x03, 0x04, 0x05, 0x06, 0x07, 0x08] ∧
    [LaneState.off, .idle, .busy, .recovering, .faulted].map LaneState.code = [0x00, 0x01, 0x02, 0x03, 0x04] ∧
    [LaneCause.faultSclHeld, .faultSdaHeld, .recovered, .reset].map LaneCause.code = [0x00, 0x01, 0x02, 0x03] ∧
    [TargetState.free, .online, .suspect, .quarantined].map TargetState.code = [0x00, 0x01, 0x02, 0x03] ∧
    [ResetCause.powerOn, .resetPin, .resetCommand].map ResetCause.code = [0x00, 0x01, 0x02]) ∧
  crc [] = 0xFFFF ∧
  (∀ (bytes : List Byte) (b : Byte),
     crc (bytes ++ [b]) = [7, 6, 5, 4, 3, 2, 1, 0].foldl
       (fun (c : Word16) (k : Nat) => if c.msb = b.getLsbD k then c <<< 1 else (c <<< 1) ^^^ 0x1021) (crc bytes)) ∧
  crc [0x31, 0x32, 0x33, 0x34, 0x35, 0x36, 0x37, 0x38, 0x39] = 0x29B1

/-! ### Operating states (R144, R151 to R157) -/

/-- POWER_ON, RESET_INPUT and SUPPLY_BELOW_OPERATING_LEVEL hold the part in reset, and everything in progress and owed is
lost; that the blocks show their reset values while the part is still held is the model's choice
(notes/assumptions/20.md). RSTn released with the supply up: the straps are read (R129) and the part enters INIT; that a
release on a part that is not held, or with the supply down, leaves the state is the model's reading
(notes/assumptions/6.md, 20.md). INIT
ends: the part enters STANDBY and the ANNOUNCE, with tag 0 and the fields of R153, is taken at once (R152); the end of its
transmission turns the receiver on in HUNT (R141). -/
def Obligations.ResetHoldsThenInitAnnounces : Prop :=
  (∀ (s : State) (c : Instr) (cause : ResetCause) (up : Bool),
     (c, cause, up) ∈ [(Instr.powerOn, ResetCause.powerOn, true), (.resetInput, .resetPin, s.supplyUp),
       (.supplyBelowOperatingLevel, .powerOn, false)] →
     exec c s = .next
       { State.reset with pending := s.pending, heldInReset := true, supplyUp := up, resetCause := cause
                          alertPins := s.alertPins, rate := s.rate, script := s.script, draws := s.draws }) ∧
  (∀ (s : State) (rate1 rate0 : Bool),
     exec (.resetRelease rate1 rate0) s =
       if s.heldInReset = true ∧ s.supplyUp = true then
         .next { State.reset with pending := s.pending, heldInReset := false, supplyUp := true
                                  resetCause := s.resetCause, alertPins := s.alertPins
                                  rate := match rate1, rate0 with
                                    | false, false => .r115200
                                    | false, true => .r460800
                                    | true, false => .r921600
                                    | true, true => .r3000000
                                  script := s.script, draws := s.draws }
       else .next s) ∧
  (∀ s : State, s.op = .init → s.heldInReset = false → s.transmitter = none →
     exec .initEnd s = .next
       { s with op := .standby
                announcePending := false
                transmitter := some ⟨.announce, frameBytes 0xC2 0
                  [s.resetCause.code, 1, 4, 32, 48, 8, 64, 48, 16, 8]⟩ }) ∧
  (∀ (s : State) (bytes : List Byte), s.transmitter = some ⟨.announce, bytes⟩ →
     exec .transmitEnd s = .next (arbitrate { s with transmitter := none, receiver := Receiver.hunting true }))

/-- START in STANDBY (R154): RUNNING, the first cycle start with number 0 (R14), the evaluation of the lines owed (R93),
and the reply with the Cycle Interval and the State of each lane as START found them. -/
def Obligations.StartMakesFirstCycle : Prop :=
  ∀ (s : State) (tag : Byte), Admits s tag → s.op = .standby →
    exec (.start tag []) s = .next (arbitrate (replied tag 0x85
      [0x00, byte s.interval, (s.lane 0).state.code, (s.lane 1).state.code, (s.lane 2).state.code,
        (s.lane 3).state.code]
      (startCycle 0 { admitted tag s with op := .running, evaluationOwed := true })))

/-- STOP in RUNNING (R155): DRAINING with the reply deferred, work lists, pending probes and pending alert reads gone
(R35, R64), queued jobs marked (R76), lines stopped (R93), countdowns of removed probes restarted (R13). DRAINING ends
(R156) once no lane is BUSY or RECOVERING, no line RUNNING and every queue empty, be it in the happening of STOP itself: the
part enters STANDBY and the STOP reply is ready; until then, and in any other state, only the replies of the happening
itself become ready. Replies of one happening join in the order of admission (R146), as the
model reads it (notes/assumptions/18.md). -/
def Obligations.StopDrainsToStandby : Prop :=
  (∀ (s : State) (tag : Byte), Admits s tag → s.op = .running → ∀ u : State,
     u = { admitted tag s with
             op := .draining
             stopTag := some tag
             drainCancelled := 0
             evaluationOwed := false
             targets := Table.ofFn fun t =>
               if ∃ i, t ∈ (s.lane i).probeTier then
                 { s.target t with countdown := countdownOf (s.target t).probeExponent }
               else s.target t
             lanes := s.lanes.map fun l =>
               { l with workList := [], probeTier := [], alertTier := [], lookOwed := false
                        jobs := l.jobs.map fun j => { j with cancelling := true } }
             lines := s.lines.map fun l =>
               match l.state with
               | .pending => { l with state := .armed, followUp := false, extraEdges := 0 }
               | .holdoff => { l with state := .armed, followUp := false }
               | .running => { l with followUp := false }
               | .off | .armed => l } →
     (¬ DrainOver u → exec (.stop tag []) s = .next (arbitrate u)) ∧
     (DrainOver u →
       exec (.stop tag []) s = .next (arbitrate
         { u with op := .standby, stopTag := none, ready := s.ready ++ [⟨.command, 0x86, tag, stopBody u⟩] }))) ∧
  (∀ (s : State) (others : List Reply),
     (s.op ≠ .draining ∨ ¬ DrainOver s → finishDrain others s = { s with ready := s.ready ++ others }) ∧
     (∀ tag, s.stopTag = some tag → s.op = .draining → DrainOver s →
       ∃ before after, others = before ++ after ∧
         finishDrain others s =
           { s with op := .standby, stopTag := none
                    ready := s.ready ++ before ++ [⟨.command, 0x86, tag, stopBody s⟩] ++ after } ∧
         (∀ r ∈ before, s.inFlight.idxOf r.tag < s.inFlight.idxOf tag) ∧
         ∀ r ∈ after.head?, s.inFlight.idxOf tag ≤ s.inFlight.idxOf r.tag))

/-- RESET in STANDBY, RUNNING and DRAINING (R157): its OK reply without fields is ready and the receiver is off. The end of
that reply's transmission lets the reset take effect with cause RESET_COMMAND (R152): the part is in INIT with every block
at its reset values. The strap levels at that moment, and so the rate, are a free choice of the surroundings (the
model's, notes/assumptions/21.md). -/
def Obligations.ResetCommandResetsThePart : Prop :=
  (∀ (s : State) (tag : Byte), Admits s tag → s.op ≠ .init →
     exec (.reset tag []) s = .next (arbitrate
       { s with receiver := Receiver.hunting false
                inFlight := s.inFlight ++ [tag]
                ready := s.ready ++ [⟨.resetCommand, 0x84, tag, [0x00]⟩] })) ∧
  (∀ (s : State) (bytes : List Byte), s.transmitter = some ⟨.reply .resetCommand, bytes⟩ →
     ∃ (rate : BitRate) (script : List (List Nat)) (draws : Nat),
       exec .transmitEnd s = .next
         { State.reset with pending := s.pending, heldInReset := s.heldInReset, supplyUp := s.supplyUp
                            resetCause := .resetCommand, alertPins := s.alertPins, rate := rate, script := script
                            draws := draws })

/-! ### Cycle starts (R14, R15, R29 to R33, R40, R56, R86, R99) -/

/-- Cycles start in RUNNING only, with the cycle number one higher, wrapping from 65535 to 0 (R14);
the row leaves any other state as it is (notes/assumptions/6.md). A cycle start leaves the
jobs, the transactions, the records, the pool and the Host Port as they are (R15). At every lane R is set to C and the
four tiers are opened (R40), a BUSY lane counts a slip (R56), and an IDLE lane in RUNNING looks for work (R43). -/
def Obligations.CycleStartOpensLanes : Prop :=
  (∀ s : State,
     (s.op = .running → exec .cycleStart s = .next (arbitrate (startCycle (s.cycle + 1) s))) ∧
     (s.op ≠ .running → exec .cycleStart s = .next s)) ∧
  (∀ (s : State) (c : Word16),
     (startCycle c s).cycle = c ∧
     ∃ polls lanes lines targets notices lost script draws,
       startCycle c s =
         { s with cycle := c, polls := polls, lanes := lanes, lines := lines, targets := targets, notices := notices
                  lostNotices := lost, script := script, draws := draws } ∧
       ∀ i, (lanes.get i).jobs = (s.lane i).jobs ∧ (lanes.get i).state = (s.lane i).state ∧
         (lanes.get i).txn = (s.lane i).txn ∧ (lanes.get i).reservation = (s.lane i).reservation) ∧
  (∀ (s : State) (c : Word16) (i : Fin 4),
     ((startCycle c s).lane i).remaining = (s.lane i).capacity ∧
     ((startCycle c s).lane i).closed = ⟨false, false, false, false⟩ ∧
     ((startCycle c s).lane i).counts =
       (if (s.lane i).state = .busy then
         { (s.lane i).counts with slips := count16 (s.lane i).counts.slips }
        else (s.lane i).counts) ∧
     (s.op = .running → (s.lane i).state = .idle → ((startCycle c s).lane i).lookOwed = true))

/-- The work list that admission makes (R30, R32): on a lane that is OFF, RECOVERING or FAULTED nothing; on an IDLE or
BUSY lane due polls only, of targets that are not QUARANTINED, in ascending order of period and among equal periods of
poll number, their costs together within B; and a due poll of such a target that is not on the list does not fit beside
the polls of the list before it. -/
def Obligations.AdmissionFillsWorkList : Prop :=
  ∀ (s : State) (c : Word16) (i : Fin 4) (l : List (Fin 48)), l = ((startCycle c s).lane i).workList →
    ((s.lane i).state ≠ .idle → (s.lane i).state ≠ .busy → l = []) ∧
    (∀ p ∈ l, (s.poll p).state = .active ∧
      c.toNat % 2 ^ (s.poll p).defn.periodExponent.val = (s.poll p).defn.phase ∧ pollLane s p = i ∧
      (s.target (s.poll p).defn.target).state ≠ .quarantined) ∧
    (l.Pairwise fun p q => (s.poll p).defn.periodExponent < (s.poll q).defn.periodExponent ∨
      ((s.poll p).defn.periodExponent = (s.poll q).defn.periodExponent ∧ p < q)) ∧
    (l.map (pollCost s)).sum ≤ (s.lane i).budget ∧
    (∀ p, ((s.lane i).state = .idle ∨ (s.lane i).state = .busy) → (s.poll p).state = .active →
      c.toNat % 2 ^ (s.poll p).defn.periodExponent.val = (s.poll p).defn.phase → pollLane s p = i →
      (s.target (s.poll p).defn.target).state ≠ .quarantined → p ∉ l →
      (s.lane i).budget < pollCost s p + ((l.filter fun q =>
        decide ((s.poll q).defn.periodExponent < (s.poll p).defn.periodExponent ∨
          ((s.poll q).defn.periodExponent = (s.poll p).defn.periodExponent ∧ q < p))).map (pollCost s)).sum)

/-- The misses that a poll entry counts at a cycle start (R31, R32, R33): LATE when it was still on the work list of one
lane, and when it is due one more unless it was admitted: LANE_DOWN, QUARANTINED or SHED; nothing else of a poll entry
changes. For each lane with misses one LANE_LOAD posting is made of the misses counted on it, and for each BUSY lane one of
a slip (R33, R56, R124). Which lane posts first is open (R125, notes/assumptions/8.md). -/
def Obligations.CycleStartCountsMisses : Prop :=
  (∀ (s : State) (c : Word16) (p : Fin 48), ScheduleInv s → ∀ late : Misses,
     late = (if p ∈ (s.lane (pollLane s p)).workList then
         { (s.poll p).counts.misses with late := count16 (s.poll p).counts.misses.late }
       else (s.poll p).counts.misses) →
     (startCycle c s).poll p =
       { s.poll p with
           counts := { (s.poll p).counts with
             misses :=
               if (s.poll p).state = .active ∧
                   c.toNat % 2 ^ (s.poll p).defn.periodExponent.val = (s.poll p).defn.phase then
                 if (s.lane (pollLane s p)).state ≠ .idle ∧ (s.lane (pollLane s p)).state ≠ .busy then
                   { late with laneDown := count16 late.laneDown }
                 else if (s.target (s.poll p).defn.target).state = .quarantined then
                   { late with quarantined := count16 late.quarantined }
                 else if p ∈ ((startCycle c s).lane (pollLane s p)).workList then late
                 else { late with shed := count16 late.shed }
               else late } }) ∧
  (∀ (s : State) (c : Word16),
     let due : Fin 4 → List (Fin 48) := fun i => (List.finRange 48).filter fun p =>
       (s.poll p).state == .active && c.toNat % 2 ^ (s.poll p).defn.periodExponent.val == (s.poll p).defn.phase
         && pollLane s p == i
     let quarantined : Fin 48 → Bool := fun p => (s.target (s.poll p).defn.target).state == .quarantined
     let up : Fin 4 → Bool := fun i => (s.lane i).state == .idle || (s.lane i).state == .busy
     let misses : Fin 4 → Misses := fun i =>
       { shed := if up i then ((due i).filter fun p =>
           !quarantined p && !((startCycle c s).lane i).workList.contains p).length else 0
         late := min (s.lane i).workList.length 65535
         quarantined := if up i then ((due i).filter quarantined).length else 0
         laneDown := if up i then 0 else (due i).length }
     let postings : Fin 4 → List NoticeBody := fun i =>
       (if misses i = ⟨0, 0, 0, 0⟩ then [] else [.laneLoad i (misses i) 0]) ++
         (if (s.lane i).state = .busy then [.laneLoad i ⟨0, 0, 0, 0⟩ 1] else [])
     ∃ order : List (Fin 4), order.Perm [0, 1, 2, 3] ∧
       (startCycle c s).notices = ((order.flatMap postings).foldl (fun u b => post b u) s).notices ∧
       (startCycle c s).lostNotices = ((order.flatMap postings).foldl (fun u b => post b u) s).lostNotices)

/-- Every line in HOLDOFF leaves it at a cycle start (R86): an active line triggers (R82) and its read joins the tail of its
lane's ALERT tier, an inactive one is ARMED; every other line stays. A QUARANTINED entry with k from 1 to 7 and no probe
pending or running counts down from more than 1, and from 1 reaches 0 with a probe at the tail of its lane's PROBE tier
(R99); the other entries stay. Which of several reads, or of several probes, queued at once goes first is open
(notes/assumptions/8.md). -/
def Obligations.CycleStartMovesLinesAndProbes : Prop :=
  (∀ (s : State) (c : Word16),
     (∀ l, (startCycle c s).line l =
       if (s.line l).state = .holdoff then
         if (s.line l).level = true then
           { s.line l with state := .pending, extraEdges := 0, followUp := false, triggers := count16 (s.line l).triggers }
         else { s.line l with state := .armed }
       else s.line l) ∧
     ∀ i, ∃ new : List (Fin 8),
       ((startCycle c s).lane i).alertTier = (s.lane i).alertTier ++ new ∧ new.Nodup ∧
         ∀ l, l ∈ new ↔ (s.line l).state = .holdoff ∧ (s.line l).level = true ∧ lineLane s l = i) ∧
  (∀ (s : State) (c : Word16),
     let counts : Fin 32 → Prop := fun t =>
       (s.target t).state = .quarantined ∧ (s.target t).probeExponent ≠ 0 ∧
         (∀ i, t ∉ (s.lane i).probeTier) ∧ ¬ ProbeRuns s t
     (∀ t, (counts t → (startCycle c s).target t =
         { s.target t with countdown := (s.target t).countdown - 1 }) ∧
       (¬ counts t → (startCycle c s).target t = s.target t)) ∧
     ∀ i, ∃ new : List (Fin 32),
       ((startCycle c s).lane i).probeTier = (s.lane i).probeTier ++ new ∧ new.Nodup ∧
         ∀ t, t ∈ new ↔ counts t ∧ (s.target t).countdown = 1 ∧ (s.target t).lane = i)

/-! ### The Target Table and target health (R1 to R12, R94 to R104) -/

/-- BIND_TARGET with a field out of its range is answered BAD_VALUE (R3); otherwise a bound entry gives IN_USE, a bound
entry with the same Lane and Bus Address CONFLICT, and an accepted command fills the entry (R4) and posts its change to
ONLINE (R104). -/
def Obligations.BindTargetFillsEntry : Prop :=
  ∀ (s : State) (tag : Byte), Admits s tag → s.op ≠ .init →
    (∀ t lane address width retry threshold probe : Byte,
      ¬ (t.toNat < 32 ∧ lane.toNat < 4 ∧ (0x08 ≤ address.toNat ∧ address.toNat ≤ 0x77) ∧ width.toNat < 3 ∧
        retry.toNat < 4 ∧ threshold.toNat < 16 ∧ probe.toNat < 8) →
      exec (.bindTarget tag [t, lane, address, width, retry, threshold, probe]) s =
        .next (arbitrate (denied tag 0x8F 0x06 s))) ∧
    (∀ (t : Fin 32) (lane : Fin 4) (address : BitVec 7) (width : Fin 3) (retry : Fin 4) (threshold : Fin 16)
        (probe : Fin 8), 0x08 ≤ address.toNat → address.toNat ≤ 0x77 →
      exec (.bindTarget tag [byte t.val, byte lane.val, address.setWidth 8, byte width.val, byte retry.val,
          byte threshold.val, byte probe.val]) s =
        .next (arbitrate (
          if (s.target t).state ≠ .free then denied tag 0x8F 0x09 s
          else if ∃ u, (s.target u).state ≠ .free ∧ (s.target u).lane = lane ∧ (s.target u).busAddress = address then
            denied tag 0x8F 0x0A s
          else replied tag 0x8F [0x00, byte t.val] (post (.targetState t .online 0)
            { admitted tag s with
                targets := s.targets.set t
                  ⟨.online, lane, address, width, retry, threshold, probe, 0, 0, ⟨0, 0, 0, 0, 0⟩⟩ }))))

/-- UNBIND_TARGET: a number outside 0 to 31 gives BAD_VALUE, a FREE entry NO_ENTRY, an entry that a defined poll, a queued
job or a running transaction refers to IN_USE (R5); an accepted command removes a pending revival probe, frees the entry
and posts its change to FREE (R6). -/
def Obligations.UnbindTargetFreesEntry : Prop :=
  ∀ (s : State) (tag : Byte), Admits s tag → s.op ≠ .init →
    (∀ t : Byte, 32 ≤ t.toNat → exec (.unbindTarget tag [t]) s = .next (arbitrate (denied tag 0x90 0x06 s))) ∧
    (∀ t : Fin 32,
      exec (.unbindTarget tag [byte t.val]) s =
        .next (arbitrate (
          if (s.target t).state = .free then denied tag 0x90 0x08 s
          else if (∃ p, (s.poll p).state ≠ .free ∧ (s.poll p).defn.target = t) ∨
              (∃ i, ∃ j ∈ (s.lane i).jobs, j.target = t) ∨ (∃ i, ∃ x ∈ (s.lane i).txn, x.target = t) then
            denied tag 0x90 0x09 s
          else replied tag 0x90 [0x00, byte t.val] (post (.targetState t .free 0)
            { admitted tag s with
                targets := s.targets.set t Target.free
                lanes :=
                  if t ∈ (s.lane (s.target t).lane).probeTier then
                    s.lanes.set (s.target t).lane (told s.op { s.lane (s.target t).lane with
                      probeTier := (s.lane (s.target t).lane).probeTier.filter (· != t) })
                  else s.lanes }))))

/-- READ_TARGET: a number outside 0 to 31 gives BAD_VALUE; otherwise the reply carries the fields of R1 and the reference
summary of R12, zeros for a FREE entry, and nothing else changes (R11). That the Probe Countdown is sent
once, at its place in R1, and the sizes of the fields, read from R159, are the model's reading (notes/assumptions/14.md,
24.md). -/
def Obligations.ReadTargetReportsEntry : Prop :=
  ∀ (s : State) (tag : Byte), Admits s tag → s.op ≠ .init →
    (∀ t : Byte, 32 ≤ t.toNat → exec (.readTarget tag [t]) s = .next (arbitrate (denied tag 0x91 0x06 s))) ∧
    (∀ (t : Fin 32) (x : Target), x = s.target t → ∀ running : Option Transaction,
      running = (List.finRange 4).findSome? (fun i => (s.lane i).txn.filter fun y => y.target == t) →
      exec (.readTarget tag [byte t.val]) s =
        .next (arbitrate (replied tag 0x91
          ([0x00, byte t.val, x.state.code, byte x.lane.val, x.busAddress.setWidth 8, byte x.width.val,
              byte x.retryLimit.val, byte x.threshold.val, byte x.probeExponent.val, byte x.failures, byte x.countdown]
            ++ word x.counts.completionsOk ++ word x.counts.addrNacks ++ word x.counts.dataNacks
            ++ word x.counts.stretchTimeouts ++ word x.counts.quarantineEntries
            ++ if x.state = .free then [0, 0, 0, 0, 0]
               else
                [byte ((List.finRange 48).countP fun p => (s.poll p).state != .free && (s.poll p).defn.target == t),
                  byte (((List.finRange 4).map fun i => (s.lane i).jobs.countP fun j => j.target == t).sum),
                  (match running with
                    | none => 0x00
                    | some y => match y.work with
                      | .poll _ => 0x01 | .alert _ => 0x02 | .job _ => 0x03 | .probe => 0x04),
                  if ∃ i, t ∈ (s.lane i).probeTier then 0x01 else 0x00,
                  byte (s.records.countP fun r => r.target == t)])
          (admitted tag s))))

/-- SET_TARGET_STATE with action REVIVE, and with action QUARANTINE, by the State of the entry (R101, R102, R97, R9); a number
outside 0 to 31 gives BAD_VALUE. That QUARANTINE leaves the countdown of a target whose probe runs as it stands, be it 0 or
not, is the model's reading (notes/assumptions/17.md). -/
def Obligations.SetTargetStateMovesTarget : Prop :=
  (∀ (s : State) (tag : Byte), Admits s tag → s.op ≠ .init →
     (∀ t : Byte, 32 ≤ t.toNat →
       exec (.setTargetStateRevive tag t []) s = .next (arbitrate (denied tag 0x92 0x06 s))) ∧
     (∀ (t : Fin 32) (x : Target), x = s.target t →
       exec (.setTargetStateRevive tag (byte t.val) []) s =
         .next (arbitrate (
           match x.state with
           | .free => denied tag 0x92 0x08 s
           | .online => replied tag 0x92 [0x00, byte t.val, 0x01, byte x.failures] (admitted tag s)
           | .suspect => replied tag 0x92 [0x00, byte t.val, 0x01, 0x00] (post (.targetState t .online 0)
               { admitted tag s with targets := s.targets.set t { x with state := .online, failures := 0 } })
           | .quarantined => replied tag 0x92 [0x00, byte t.val, 0x01, 0x00] (post (.targetState t .online 0)
               { admitted tag s with
                   targets := s.targets.set t { x with state := .online, failures := 0, countdown := 0 }
                   lanes := s.lanes.set x.lane (told s.op { s.lane x.lane with
                     probeTier := (s.lane x.lane).probeTier.filter (· != t) }) }))))) ∧
  (∀ (s : State) (tag : Byte), Admits s tag → s.op ≠ .init →
     (∀ t : Byte, 32 ≤ t.toNat →
       exec (.setTargetStateQuarantine tag t []) s = .next (arbitrate (denied tag 0x92 0x06 s))) ∧
     (∀ (t : Fin 32) (x : Target), x = s.target t →
       (x.state = .free →
         exec (.setTargetStateQuarantine tag (byte t.val) []) s = .next (arbitrate (denied tag 0x92 0x08 s))) ∧
       (x.state = .online ∨ x.state = .suspect →
         exec (.setTargetStateQuarantine tag (byte t.val) []) s =
           .next (arbitrate (replied tag 0x92 [0x00, byte t.val, 0x03, byte x.failures]
             (post (.targetState t .quarantined x.failures)
               { admitted tag s with
                   targets := s.targets.set t
                     { x with state := .quarantined
                              countdown := countdownOf x.probeExponent
                              counts := { x.counts with
                                quarantineEntries := count16 x.counts.quarantineEntries } } })))) ∧
       (x.state = .quarantined →
         exec (.setTargetStateQuarantine tag (byte t.val) []) s =
           .next (arbitrate (replied tag 0x92 [0x00, byte t.val, 0x03, byte x.failures]
             { admitted tag s with
                 targets := s.targets.set t
                   { x with countdown := if ProbeRuns s t then x.countdown else countdownOf x.probeExponent }
                 lanes :=
                   if t ∈ (s.lane x.lane).probeTier then
                     s.lanes.set x.lane (told s.op { s.lane x.lane with
                       probeTier := (s.lane x.lane).probeTier.filter (· != t) })
                   else s.lanes })))))

/-- The end of a transaction acts on its target (R8, R95, R96, R97, R100): the counter of its outcome, F, and the State,
each change of State being posted (R104); the other entries stay. That a DATA_NACK of a revival probe,
which no run has, acts as an acknowledgement is the model's choice (notes/assumptions/26.md). -/
def Obligations.OutcomeMovesTarget : Prop :=
  ∀ (s : State) (i : Fin 4) (x : Transaction), (s.lane i).txn = some x → ∀ f : Final,
    f.status ≠ .cancelled → f.status ≠ .quarantined → ∀ a : Target, a = s.target x.target → a.state ≠ .free →
    ∀ b : Target, b = (endTransaction i f s).target x.target →
    (∀ t, t ≠ x.target → (endTransaction i f s).target t = s.target t) ∧
    b = { a with state := b.state, failures := b.failures, countdown := b.countdown, counts := b.counts } ∧
    b.failures = (match f.status with
      | .ok | .dataNack => 0
      | .addrNack | .stretchTimeout => if a.failures < 15 then a.failures + 1 else a.failures
      | _ => a.failures) ∧
    b.counts.completionsOk = (if f.status = .ok then count16 a.counts.completionsOk else a.counts.completionsOk) ∧
    b.counts.addrNacks = (if f.status = .addrNack then count16 a.counts.addrNacks else a.counts.addrNacks) ∧
    b.counts.dataNacks = (if f.status = .dataNack then count16 a.counts.dataNacks else a.counts.dataNacks) ∧
    b.counts.stretchTimeouts =
      (if f.status = .stretchTimeout then count16 a.counts.stretchTimeouts else a.counts.stretchTimeouts) ∧
    b.counts.quarantineEntries =
      (if a.state ≠ .quarantined ∧ b.state = .quarantined then count16 a.counts.quarantineEntries
       else a.counts.quarantineEntries) ∧
    b.state = (if a.state = .quarantined then
        if x.work = .probe ∧ (f.status = .ok ∨ f.status = .dataNack) then .online else .quarantined
      else match f.status with
        | .ok | .dataNack => .online
        | .addrNack | .stretchTimeout =>
          if 0 < a.threshold.val ∧ a.threshold.val ≤ b.failures then .quarantined else .suspect
        | _ => a.state) ∧
    b.countdown = (if a.state = .quarantined then
        if x.work = .probe then
          if f.status = .ok ∨ f.status = .dataNack then 0 else countdownOf a.probeExponent
        else a.countdown
      else if b.state = .quarantined then countdownOf a.probeExponent else a.countdown) ∧
    (b.state = a.state →
      (endTransaction i f s).notices = s.notices ∧ (endTransaction i f s).lostNotices = s.lostNotices) ∧
    (b.state ≠ a.state →
      (endTransaction i f s).notices = (post (.targetState x.target b.state b.failures) s).notices ∧
      (endTransaction i f s).lostNotices = (post (.targetState x.target b.state b.failures) s).lostNotices)

/-! ### Cycles and polls (R16 to R28) -/

/-- SET_CYCLE (R16, R17, R40): its three checks, and an accepted command's new interval with C and B of every lane. -/
def Obligations.SetCycleSetsInterval : Prop :=
  ∀ (s : State) (tag : Byte), Admits s tag → s.op ≠ .init →
    (∀ body : List Byte, body.length ≠ 1 →
      exec (.setCycle tag body) s = .next (arbitrate (denied tag 0x87 0x05 s))) ∧
    (∀ interval : Byte,
      exec (.setCycle tag [interval]) s =
        .next (arbitrate (
          if s.op ≠ .standby then denied tag 0x87 0x07 s
          else if interval.toNat < 1 ∨ 250 < interval.toNat then denied tag 0x87 0x06 s
          else replied tag 0x87 [0x00]
            { admitted tag s with
                interval := interval.toNat
                lanes := s.lanes.map fun l =>
                  { l with capacity := interval.toNat * l.speed.kbits / 10
                           budget := interval.toNat * l.speed.kbits / 10 * l.pollShare / 100
                           remaining := 0 } })))

/-- DEFINE_POLL with a field out of its range is answered BAD_VALUE (R23 check 3): the Phase is compared with the period,
and Threshold, Value Order and the least Byte Count of 2 are checked in DELTA mode only. With every field in its range come
the reference checks in their order (R23 check 4), and an accepted command installs the new definition with the next
Generation, fresh snapshot and counters and no link (R24, R20 to R22, R117), the entry off its work list and its running
transactions marked (R25). -/
def Obligations.DefinePollInstallsDefinition : Prop :=
  (∀ (s : State) (tag p t r1 r0 n e phase mode th1 th0 order keep initial : Byte), Admits s tag → s.op ≠ .init →
     ¬ (p.toNat < 48 ∧ t.toNat < 32 ∧ (1 ≤ n.toNat ∧ n.toNat ≤ 32) ∧ e.toNat < 8 ∧ phase.toNat < 2 ^ e.toNat ∧
       mode.toNat < 3 ∧
       (mode = 0x02 → (1 ≤ th1.toNat * 256 + th0.toNat ∧ th1.toNat * 256 + th0.toNat ≤ 32767) ∧ order.toNat < 2 ∧
         2 ≤ n.toNat) ∧
       keep.toNat < 2 ∧ (initial = 0x01 ∨ initial = 0x02)) →
     exec (.definePoll tag [p, t, r1, r0, n, e, phase, mode, th1, th0, order, keep, initial]) s =
       .next (arbitrate (denied tag 0x88 0x06 s))) ∧
  (∀ (s : State) (tag : Byte) (p : Fin 48) (t : Fin 32) (register : Word16) (n : Nat) (e : Fin 8) (phase : Nat)
       (mode : ReportMode) (th1 th0 order keep : Byte) (initial : PollState),
     Admits s tag → s.op ≠ .init → 1 ≤ n → n ≤ 32 → phase < 2 ^ e.val → keep.toNat < 2 → initial ≠ .free →
     (mode = .delta → 1 ≤ th1.toNat * 256 + th0.toNat ∧ th1.toNat * 256 + th0.toNat ≤ 32767 ∧ order.toNat < 2 ∧
       2 ≤ n) →
     ∀ defn : PollDef,
     defn = { target := t, register := register, byteCount := n, periodExponent := e, phase := phase, mode := mode
              threshold := if mode = .delta then th1.toNat * 256 + th0.toNat else 0
              order := if mode = .delta ∧ order = 0x01 then .little else .big
              keepLatest := keep == 0x01 } →
     exec (.definePoll tag ([byte p.val, byte t.val] ++ word register.toNat
         ++ [byte n, byte e.val, byte phase, mode.code, th1, th0, order, keep, initial.code])) s =
       .next (arbitrate (
         if (s.target t).state = .free then denied tag 0x88 0x08 s
         else if 256 ^ (s.target t).width.val ≤ register.toNat then denied tag 0x88 0x06 s
         else if (∃ l, (s.line l).enabled = true ∧ (s.line l).boundPoll = p) ∧
             (s.target t).lane ≠ (s.target (s.poll p).defn.target).lane then denied tag 0x88 0x09 s
         else replied tag 0x88 [0x00, byte p.val, (s.poll p).generation + 1]
           { admitted tag s with
               polls := s.polls.set p
                 { state := initial, generation := (s.poll p).generation + 1, defn := defn
                   snapshot := ⟨false, .ok, List.replicate n 0⟩, counts := ⟨0, 0, 0, 0, 0, 0, 0⟩, link := none }
               lanes := s.lanes.map (definitionEnded s p) })))

/-- DELETE_POLL (R26): a number outside 0 to 47 gives BAD_VALUE, a FREE entry NO_ENTRY, an entry to which an enabled line
is bound IN_USE; an accepted command frees the entry but for its Generation (R20), takes it off its work list and marks
its running transactions (R25). SET_POLL_STATE with action PAUSE or RESUME (R27): the first two of these checks; PAUSE
takes the entry off its work list without a miss, and neither touches a running transaction. -/
def Obligations.DeletePauseAndResumePoll : Prop :=
  (∀ (s : State) (tag : Byte), Admits s tag → s.op ≠ .init →
     (∀ p : Byte, 48 ≤ p.toNat → exec (.deletePoll tag [p]) s = .next (arbitrate (denied tag 0x89 0x06 s))) ∧
     (∀ p : Fin 48,
       exec (.deletePoll tag [byte p.val]) s =
         .next (arbitrate (
           if (s.poll p).state = .free then denied tag 0x89 0x08 s
           else if ∃ l, (s.line l).enabled = true ∧ (s.line l).boundPoll = p then denied tag 0x89 0x09 s
           else replied tag 0x89 [0x00, byte p.val]
             { admitted tag s with
                 polls := s.polls.set p
                   { state := .free, generation := (s.poll p).generation
                     defn := ⟨0, 0, 0, 0, 0, .every, 0, .big, false⟩
                     snapshot := ⟨false, .ok, []⟩, counts := ⟨0, 0, 0, 0, 0, 0, 0⟩, link := none }
                 lanes := s.lanes.map (definitionEnded s p) })))) ∧
  (∀ (s : State) (tag : Byte), Admits s tag → s.op ≠ .init →
     (∀ p : Byte, 48 ≤ p.toNat →
       exec (.setPollStatePause tag p []) s = .next (arbitrate (denied tag 0x8A 0x06 s)) ∧
       exec (.setPollStateResume tag p []) s = .next (arbitrate (denied tag 0x8A 0x06 s))) ∧
     (∀ p : Fin 48, (s.poll p).state = .free →
       exec (.setPollStatePause tag (byte p.val) []) s = .next (arbitrate (denied tag 0x8A 0x08 s)) ∧
       exec (.setPollStateResume tag (byte p.val) []) s = .next (arbitrate (denied tag 0x8A 0x08 s))) ∧
     (∀ p : Fin 48, (s.poll p).state ≠ .free →
       exec (.setPollStatePause tag (byte p.val) []) s =
         .next (arbitrate (replied tag 0x8A [0x00, byte p.val, 0x02]
           { admitted tag s with polls := s.polls.set p { s.poll p with state := .paused }
                                 lanes := s.lanes.map (unlisted s.op p) })) ∧
       exec (.setPollStateResume tag (byte p.val) []) s =
         .next (arbitrate (replied tag 0x8A [0x00, byte p.val, 0x01]
           { admitted tag s with polls := s.polls.set p { s.poll p with state := .active } }))))

/-- READ_POLL (R28, R18): a number outside 0 to 47 gives BAD_VALUE; otherwise the reply carries the entry, its snapshot,
counters, Lane and Cost, On Work List, Running and the enabled lines bound to it, and nothing else changes. The count of
the zero bytes of a snapshot that is not Valid (notes/assumptions/13.md) and the ascending order of the line numbers
(notes/assumptions/29.md) are the model's choices; that Running is not ALERT for a read whose definition has ended
(notes/assumptions/15.md) and the sizes of the fields, read from R159 (notes/assumptions/24.md), are its readings. -/
def Obligations.ReadPollReportsEntry : Prop :=
  ∀ (s : State) (tag : Byte), Admits s tag → s.op ≠ .init →
    (∀ p : Byte, 48 ≤ p.toNat → exec (.readPoll tag [p]) s = .next (arbitrate (denied tag 0x8B 0x06 s))) ∧
    (∀ (p : Fin 48) (e : Poll), e = s.poll p → ∀ t : Target, t = s.target e.defn.target → ∀ running : Byte,
      running =
        (if ∃ i, ∃ x ∈ (s.lane i).txn, x.work = .poll p ∧ x.discarded = false then 0x01
        else if ∃ l, ∃ i, ∃ x ∈ (s.lane i).txn, x.work = .alert l ∧ (s.line l).boundPoll = p ∧
            x.definitionGone = false then 0x02
        else if ∃ i, ∃ x ∈ (s.lane i).txn, x.work = .poll p then 0x05 else 0x00) →
      exec (.readPoll tag [byte p.val]) s =
        .next (arbitrate (replied tag 0x8B
          ([0x00, byte p.val, e.state.code, e.generation, byte e.defn.target.val] ++ word e.defn.register.toNat
            ++ [byte e.defn.byteCount, byte e.defn.periodExponent.val, byte e.defn.phase, e.defn.mode.code]
            ++ word e.defn.threshold ++ [e.defn.order.code, if e.defn.keepLatest then 0x01 else 0x00]
            ++ [if e.snapshot.valid then 0x01 else 0x00, if e.snapshot.valid then e.snapshot.lastStatus.code else 0x00,
                byte e.snapshot.lastData.length]
            ++ (if e.snapshot.valid then e.snapshot.lastData else List.replicate e.snapshot.lastData.length 0)
            ++ word e.counts.completions ++ word e.counts.records ++ word e.counts.superseded
            ++ word e.counts.misses.shed ++ word e.counts.misses.late ++ word e.counts.misses.quarantined
            ++ word e.counts.misses.laneDown
            ++ (if e.state = .free then [0, 0]
                else [byte t.lane.val,
                  byte (if t.width = 0 then e.defn.byteCount + 2 else t.width.val + e.defn.byteCount + 4)])
            ++ [if ∃ i, p ∈ (s.lane i).workList then 0x01 else 0x00, running]
            ++ [byte ((List.finRange 8).countP fun l => (s.line l).enabled && (s.line l).boundPoll == p)]
            ++ ((List.finRange 8).filter fun l => (s.line l).enabled && (s.line l).boundPoll == p).map
                fun l => byte l.val)
          (admitted tag s))))

/-! ### Commands to lanes (R36 to R39, R60 to R62) -/

/-- SET_LANE in STANDBY: a field out of its range gives BAD_VALUE, a RECOVERING lane BUSY, Enable no on a lane that holds
jobs IN_USE (R38); an accepted command stores the settings, recomputes C and B (R17), sets R to 0 and moves the State
(R39), a FAULTED lane taken OFF posting a notice (R59). On a BUSY lane, which STANDBY never holds (R151), the model keeps
the State (notes/assumptions/26.md). -/
def Obligations.SetLaneStoresSettings : Prop :=
  ∀ (s : State) (tag : Byte), Admits s tag → s.op = .standby →
    (∀ lane enable sp1 sp0 stretch share : Byte,
      ¬ (lane.toNat < 4 ∧ enable.toNat < 2 ∧ sp1.toNat * 256 + sp0.toNat ∈ [100, 400, 1000] ∧ 1 ≤ stretch.toNat ∧
        10 ≤ share.toNat ∧ share.toNat ≤ 90) →
      exec (.setLane tag [lane, enable, sp1, sp0, stretch, share]) s =
        .next (arbitrate (denied tag 0x8C 0x06 s))) ∧
    (∀ (i : Fin 4) (enable : Bool) (speed : Speed) (stretch share : Byte),
      1 ≤ stretch.toNat → 10 ≤ share.toNat → share.toNat ≤ 90 → ∀ l : Lane, l = s.lane i → ∀ state : LaneState,
      state = (match l.state, enable with
        | .off, true => .idle
        | .idle, false => .off
        | .faulted, false => .off
        | before, _ => before) → ∀ u : State,
      u = { admitted tag s with
              lanes := s.lanes.set i
                { l with state := state, speed := speed, stretchLimit := stretch.toNat, pollShare := share.toNat
                         capacity := s.interval * speed.kbits / 10
                         budget := s.interval * speed.kbits / 10 * share.toNat / 100
                         remaining := 0 } } →
      exec (.setLane tag ([byte i.val, if enable then 0x01 else 0x00] ++ word speed.kbits ++ [stretch, share])) s =
        .next (arbitrate (
          if l.state = .recovering then denied tag 0x8C 0x0B s
          else if enable = false ∧ l.jobs ≠ [] then denied tag 0x8C 0x09 s
          else replied tag 0x8C [0x00, byte i.val, state.code]
            (if l.state = .faulted ∧ enable = false then post (.laneState i .off .reset) u else u))))

/-- READ_LANE: a number outside 0 to 3 gives BAD_VALUE; otherwise the reply carries every field of R62 and nothing of the
part changes. The sampled levels of SCL and SDA are a free choice of the surroundings (the model's,
notes/assumptions/9.md); the order and sizes of the fields are read from R62 and R159 (the model's,
notes/assumptions/24.md). -/
def Obligations.ReadLaneReportsLane : Prop :=
  ∀ (s : State) (tag : Byte), Admits s tag → s.op ≠ .init →
    (∀ i : Byte, 4 ≤ i.toNat → exec (.readLane tag [i]) s = .next (arbitrate (denied tag 0x8D 0x06 s))) ∧
    (∀ (i : Fin 4) (l : Lane), l = s.lane i → ∃ (scl sda : Bool) (script : List (List Nat)) (draws : Nat),
      exec (.readLane tag [byte i.val]) s =
        .next (arbitrate (replied tag 0x8D
          ([0x00, byte i.val, l.state.code] ++ word l.speed.kbits ++ [byte l.stretchLimit, byte l.pollShare]
            ++ word l.capacity ++ word l.budget ++ word l.remaining
            ++ [flag l.closed.probe, flag l.closed.alert, flag l.closed.schedule, flag l.closed.job,
                byte l.probeTier.length, byte l.alertTier.length, byte l.workList.length, byte l.jobs.length]
            ++ (match l.txn with
                | none => List.replicate 13 0
                | some x =>
                  [x.work.code]
                    ++ word (match x.work with | .poll p => p.val | .alert a => a.val | .job j => j.number
                                               | .probe => x.target.val)
                    ++ [x.generation, byte x.target.val, x.op.code] ++ word x.register.toNat
                    ++ [byte x.byteCount, byte x.attempt, byte x.cost, byte x.charged, flag x.discarded])
            ++ [l.reservation.code, l.lastFault.code, byte l.waitingResets.length, flag scl, flag sda]
            ++ word l.counts.transactions ++ word l.counts.retries ++ word l.counts.slips
            ++ word l.counts.stretchTimeouts ++ word l.counts.arbLosses ++ word l.counts.recoveries
            ++ word l.counts.faults)
          { admitted tag s with script := script, draws := draws })))

/-- LANE_RESET (R60, R61): a number outside 0 to 3 gives BAD_VALUE, an OFF lane LANE_DOWN; otherwise the reply waits, an
IDLE lane or a FAULTED one enters RECOVERING, the latter with a notice (R59), a RECOVERING lane goes on, and the
transaction of a BUSY lane ends ABORTED as every end does (R55). -/
def Obligations.LaneResetBeginsRecovery : Prop :=
  ∀ (s : State) (tag : Byte), Admits s tag → s.op ≠ .init →
    (∀ i : Byte, 4 ≤ i.toNat → exec (.laneReset tag [i]) s = .next (arbitrate (denied tag 0x8E 0x06 s))) ∧
    (∀ (i : Fin 4) (l : Lane), l = s.lane i → ∀ waits : Lane → Lane,
      waits = (fun k => { k with waitingResets := k.waitingResets ++ [tag] }) → ∀ recovers : Lane → Lane,
      recovers = (fun k => { k with state := .recovering
                                    counts := { k.counts with recoveries := count16 k.counts.recoveries } }) →
      exec (.laneReset tag [byte i.val]) s =
        .next (arbitrate (
          match l.state with
          | .off => denied tag 0x8E 0x0F s
          | .idle => { admitted tag s with lanes := s.lanes.set i (waits { recovers l with fromFault := false }) }
          | .recovering => { admitted tag s with lanes := s.lanes.set i (waits l) }
          | .faulted => post (.laneState i .recovering .reset)
              { admitted tag s with lanes := s.lanes.set i (waits { recovers l with fromFault := true }) }
          | .busy =>
            let u := endTransaction i ⟨.aborted, [], 0⟩ (admitted tag s)
            { u with lanes := u.lanes.set i (waits (u.lane i)) })))

/-! ### Looking for work (R42 to R47, R69, R84) -/

/-- A lane that looks for work and goes past every tier stays IDLE, its tiers open and closed as they were, R and the queues
too: a tier is passed that is closed or empty (R42, R45), or whose head waits for result space (R46), a record slot or the
pool block of a read, or a record slot to settle a head of a QUARANTINED target (R44); so with a slot but no block free no
read at a head starts. A lane that is not IDLE, or looks in another state than RUNNING, does nothing (R43). The mark that a
look is owed is the model's (notes/assumptions/7.md). -/
def Obligations.LookFindsNothingToStart : Prop :=
  ∀ (s : State) (i : Fin 4) (l : Lane), l = s.lane i →
    (l.state ≠ .idle ∨ s.op ≠ .running ∨ l.lookOwed = false → exec (.lookForWork i) s = .next s) ∧
    (l.state = .idle → s.op = .running → l.lookOwed = true → l.closed.probe = true ∨ l.probeTier = [] →
      AlertTierPassed s i → ScheduleTierPassed s i → JobTierPassed s i →
      exec (.lookForWork i) s =
        .next (arbitrate { s with lanes := s.lanes.set i { l with lookOwed := false } }))

/-- A revival probe at the head of the PROBE tier starts before every other tier when R is at least 2 (R42, R46, R47, R100).
The PROBE tier being empty or closed, an alert read at the head of the ALERT tier starts with the definition of its bound
poll as it stands (R84) when its cost does not exceed R and a slot and a block are free (R45 to R47); its line goes to
RUNNING. -/
def Obligations.LookStartsProbeOrAlertRead : Prop :=
  (∀ (s : State) (i : Fin 4) (l : Lane), l = s.lane i →
     l.state = .idle → s.op = .running → l.lookOwed = true → l.closed.probe = false →
     ∀ (t : Fin 32) (rest : List (Fin 32)), l.probeTier = t :: rest → 2 ≤ l.remaining →
     exec (.lookForWork i) s =
       .next (arbitrate
         { s with
             lanes := s.lanes.set i
               { l with probeTier := rest
                        remaining := l.remaining - 2
                        reservation := .none
                        state := .busy
                        txn := some { work := .probe, generation := 0, target := t, op := .probe, register := 0
                                      byteCount := 0, attempt := 1, cost := 2, charged := 2, discarded := false
                                      definitionGone := false
                                      segments := [⟨addressByte (s.target t).busAddress false, [], 0⟩] }
                        counts := { l.counts with transactions := count16 l.counts.transactions }
                        lookOwed := false } })) ∧
  (∀ (s : State) (i : Fin 4) (l : Lane), l = s.lane i →
     l.state = .idle → s.op = .running → l.lookOwed = true → l.closed.probe = true ∨ l.probeTier = [] →
     l.closed.alert = false → ∀ (a : Fin 8) (rest : List (Fin 8)), l.alertTier = a :: rest →
     ∀ e : Poll, e = s.poll (s.line a).boundPoll → ∀ t : Target, t = s.target e.defn.target →
     t.state ≠ .quarantined → costOf .read t.width.val e.defn.byteCount ≤ l.remaining →
     s.records.length + s.reservations < 48 → 1 ≤ s.pool.free →
     exec (.lookForWork i) s =
       .next (arbitrate
         { s with
             lines := s.lines.set a { s.line a with state := .running }
             pool := ⟨s.pool.free - 1, min s.pool.lowWater (s.pool.free - 1)⟩
             lanes := s.lanes.set i
               { l with alertTier := rest
                        remaining := l.remaining - costOf .read t.width.val e.defn.byteCount
                        reservation := .slotAndBlock
                        state := .busy
                        txn := some { work := .alert a, generation := e.generation, target := e.defn.target, op := .read
                                      register := e.defn.register, byteCount := e.defn.byteCount, attempt := 1
                                      cost := costOf .read t.width.val e.defn.byteCount
                                      charged := costOf .read t.width.val e.defn.byteCount
                                      discarded := false, definitionGone := false
                                      segments := segmentsOf t .read e.defn.register e.defn.byteCount [] }
                        counts := { l.counts with transactions := count16 l.counts.transactions }
                        lookOwed := false } }))

/-- A poll at the head of the work list, the PROBE and ALERT tiers being passed, starts when its cost does not exceed R and
a slot and a block are free (R45 to R47). A job at the head of the JOB tier, the three tiers above being passed, starts when
its cost does not exceed R and its result space is free: a slot and a block for a READ, a slot for a WRITE or a PROBE (R45
to R47, R69), which so start past reads above them that wait for a block (R46). -/
def Obligations.LookStartsPollOrJob : Prop :=
  (∀ (s : State) (i : Fin 4) (l : Lane), l = s.lane i →
     l.state = .idle → s.op = .running → l.lookOwed = true → l.closed.probe = true ∨ l.probeTier = [] →
     AlertTierPassed s i → l.closed.schedule = false →
     ∀ (p : Fin 48) (rest : List (Fin 48)), l.workList = p :: rest → ∀ e : Poll, e = s.poll p →
     ∀ t : Target, t = s.target e.defn.target → t.state ≠ .quarantined → costOf .read t.width.val e.defn.byteCount ≤ l.remaining →
     s.records.length + s.reservations < 48 → 1 ≤ s.pool.free →
     exec (.lookForWork i) s =
       .next (arbitrate
         { s with
             pool := ⟨s.pool.free - 1, min s.pool.lowWater (s.pool.free - 1)⟩
             lanes := s.lanes.set i
               { l with workList := rest
                        remaining := l.remaining - costOf .read t.width.val e.defn.byteCount
                        reservation := .slotAndBlock
                        state := .busy
                        txn := some { work := .poll p, generation := e.generation, target := e.defn.target, op := .read
                                      register := e.defn.register, byteCount := e.defn.byteCount, attempt := 1
                                      cost := costOf .read t.width.val e.defn.byteCount
                                      charged := costOf .read t.width.val e.defn.byteCount
                                      discarded := false, definitionGone := false
                                      segments := segmentsOf t .read e.defn.register e.defn.byteCount [] }
                        counts := { l.counts with transactions := count16 l.counts.transactions }
                        lookOwed := false } })) ∧
  (∀ (s : State) (i : Fin 4) (l : Lane), l = s.lane i →
     l.state = .idle → s.op = .running → l.lookOwed = true → l.closed.probe = true ∨ l.probeTier = [] →
     AlertTierPassed s i → ScheduleTierPassed s i → l.closed.job = false →
     ∀ (j : Job) (rest : List Job), l.jobs = j :: rest → ∀ t : Target, t = s.target j.target → t.state ≠ .quarantined →
     costOf j.kind t.width.val j.byteCount ≤ l.remaining →
     s.records.length + s.reservations < 48 → (j.kind = .read → 1 ≤ s.pool.free) →
     exec (.lookForWork i) s =
       .next (arbitrate
         { s with
             pool := if j.kind = .read then ⟨s.pool.free - 1, min s.pool.lowWater (s.pool.free - 1)⟩ else s.pool
             lanes := s.lanes.set i
               { l with jobs := rest
                        remaining := l.remaining - costOf j.kind t.width.val j.byteCount
                        reservation := if j.kind = .read then .slotAndBlock else .slot
                        state := .busy
                        txn := some { work := .job j, generation := 0, target := j.target, op := j.kind
                                      register := j.register, byteCount := j.byteCount, attempt := 1
                                      cost := costOf j.kind t.width.val j.byteCount
                                      charged := costOf j.kind t.width.val j.byteCount
                                      discarded := false, definitionGone := false
                                      segments := segmentsOf t j.kind j.register j.byteCount (j.data.getD []) }
                        counts := { l.counts with transactions := count16 l.counts.transactions }
                        lookOwed := false } }))

/-- A head whose cost exceeds R closes its tier, and the lane goes on with the next tier (R45): looking is then the same as
looking with that tier closed. The tiers above are passed: empty, closed, or their heads waiting for result space (R46). A
head of a QUARANTINED target is the subject of `LookSettlesQuarantinedHeads`. -/
def Obligations.LookClosesTier : Prop :=
  ∀ (s : State) (i : Fin 4) (l : Lane), l = s.lane i → l.state = .idle → s.op = .running → l.lookOwed = true →
    ∀ again : Lane → Host.Outcome State Fault Refusal,
    again = (fun k => exec (.lookForWork i) { s with lanes := s.lanes.set i k }) →
    (∀ t rest, l.probeTier = t :: rest → l.closed.probe = false → l.remaining < 2 →
      exec (.lookForWork i) s = again { l with closed := { l.closed with probe := true } }) ∧
    (l.closed.probe = true ∨ l.probeTier = [] →
      (∀ a rest, l.alertTier = a :: rest → l.closed.alert = false → ∀ e, e = (s.poll (s.line a).boundPoll).defn →
        (s.target e.target).state ≠ .quarantined →
        l.remaining < costOf .read (s.target e.target).width.val e.byteCount →
        exec (.lookForWork i) s = again { l with closed := { l.closed with alert := true } }) ∧
      (AlertTierPassed s i →
        (∀ p rest, l.workList = p :: rest → l.closed.schedule = false → ∀ e, e = (s.poll p).defn →
          (s.target e.target).state ≠ .quarantined →
          l.remaining < costOf .read (s.target e.target).width.val e.byteCount →
          exec (.lookForWork i) s = again { l with closed := { l.closed with schedule := true } }) ∧
        (ScheduleTierPassed s i →
          ∀ j rest, l.jobs = j :: rest → l.closed.job = false → (s.target j.target).state ≠ .quarantined →
            l.remaining < costOf j.kind (s.target j.target).width.val j.byteCount →
            exec (.lookForWork i) s = again { l with closed := { l.closed with job := true } })))

/-- A head of a QUARANTINED target is settled without the bus (R44): a poll is removed with a QUARANTINED miss counted and
posted (R33); an alert read or a job ends with status QUARANTINED where a record slot is free, its record made, its line
moved (R85) or its Data Block freed (R69); the lane then goes on looking. The tiers above are passed: empty, closed, or
their heads waiting for result space. Where no slot is free such an alert read or job waits itself, which
`LookFindsNothingToStart` and the statements on the tiers below it say. -/
def Obligations.LookSettlesQuarantinedHeads : Prop :=
  ∀ (s : State) (i : Fin 4) (l : Lane), l = s.lane i →
    l.state = .idle → s.op = .running → l.lookOwed = true → l.closed.probe = true ∨ l.probeTier = [] →
    ∀ again : State → Host.Outcome State Fault Refusal, again = exec (.lookForWork i) →
    (∀ a rest, l.alertTier = a :: rest → l.closed.alert = false → ∀ e, e = s.poll (s.line a).boundPoll →
      (s.target e.defn.target).state = .quarantined → s.records.length + s.reservations < 48 → ∀ u,
      u = { s with
              records := s.records ++
                [⟨.alert a e.generation (s.line a).extraEdges, e.defn.target, s.cycle, .quarantined, none⟩]
              lanes := s.lanes.set i { l with alertTier := rest } } →
      exec (.lookForWork i) s = again (
        if (s.line a).closing then
          { u with
              lines := s.lines.set a
                { s.line a with state := .off, closing := false, followUp := false, extraEdges := 0 } }
        else if (s.line a).mode = .level then
          { u with lines := s.lines.set a { s.line a with state := .holdoff, extraEdges := 0 } }
        else if (s.line a).followUp then triggeredAt a u
        else { u with lines := s.lines.set a { s.line a with state := .armed, extraEdges := 0 } })) ∧
    (AlertTierPassed s i →
      (∀ p rest, l.workList = p :: rest → l.closed.schedule = false →
        (s.target (s.poll p).defn.target).state = .quarantined →
        exec (.lookForWork i) s = again (post (.laneLoad i ⟨0, 0, 1, 0⟩ 0)
          { s with
              lanes := s.lanes.set i { l with workList := rest }
              polls := s.polls.set p { s.poll p with counts := { (s.poll p).counts with
                misses := { (s.poll p).counts.misses with
                  quarantined := count16 (s.poll p).counts.misses.quarantined } } } })) ∧
      (ScheduleTierPassed s i →
        ∀ j rest, l.jobs = j :: rest → l.closed.job = false → (s.target j.target).state = .quarantined →
          s.records.length + s.reservations < 48 →
          exec (.lookForWork i) s = again
            { s with
                records := s.records ++ [⟨.job j.number j.tag 0, j.target, s.cycle, .quarantined, none⟩]
                pool := { s.pool with free := s.pool.free + (if j.data.isSome then 1 else 0) }
                lanes := (s.lanes.set i { l with jobs := rest }).map fun k =>
                  if j.data.isSome then told s.op k else k }))

/-! ### Transactions on the bus (R49 to R57, R70, R85, R113 to R118) -/

/-- An attempt whose address is not acknowledged is retried while retries remain and the cost does not exceed R, a revival
probe never (R54): R is charged, Attempt, Charged and Retries go up and the attempt is sent again; otherwise ADDR_NACK is
the final outcome. On a lane that is not BUSY the row is no happening (the model's, notes/assumptions/6.md). The other ends
of a running transaction: OK with the bytes read (R50), DATA_NACK with the data bytes acknowledged before the byte that was
not (R51), STRETCH_TIMEOUT (R52), ARB_LOST (R53) and BUS_STUCK (R49), two of them counted by the lane (R63). What the end
does is the subject of the statements on `endTransaction`; then DRAINING may end (R156). -/
def Obligations.AttemptsEnd : Prop :=
  (∀ (s : State) (i : Fin 4) (l : Lane), l = s.lane i →
     (l.state ≠ .busy → exec (.attemptAddrNack i) s = .next s) ∧
     ∀ x, l.txn = some x → l.state = .busy → ∀ t, t = s.target x.target →
       exec (.attemptAddrNack i) s =
         if x.work ≠ .probe ∧ x.attempt - 1 < t.retryLimit.val ∧ x.cost ≤ l.remaining then
           .next (arbitrate
             { s with
                 lanes := s.lanes.set i
                   { l with remaining := l.remaining - x.cost
                            txn := some { x with attempt := x.attempt + 1, charged := x.charged + x.cost
                                                 segments := segmentsOf t x.op x.register x.byteCount
                                                   (match x.work with | .job j => j.data.getD [] | _ => []) }
                            counts := { l.counts with retries := count16 l.counts.retries } } })
         else .next (arbitrate (finishDrain [] (endTransaction i ⟨.addrNack, [], 0⟩ s)))) ∧
  (∀ (s : State) (i : Fin 4) (l : Lane), l = s.lane i → ∀ x : Transaction, l.txn = some x → l.state = .busy →
     ∀ ends : Final → State → Host.Outcome State Fault Refusal,
     ends = (fun f u => .next (arbitrate (finishDrain [] (endTransaction i f u)))) →
     (∀ data, data.length = (if x.op = .read then x.byteCount else 0) →
       exec (.transactionEnd i (.completed data)) s =
         ends ⟨.ok, data, if x.op = .write then x.byteCount else 0⟩ s) ∧
     (∀ k w, k < writtenCount x.segments → writtenCount x.segments = w + (if x.op = .write then x.byteCount else 0) →
       exec (.transactionEnd i (.notAcknowledged k)) s = ends ⟨.dataNack, [], k - w⟩ s) ∧
     exec (.stretchTimeout i) s = ends ⟨.stretchTimeout, [], 0⟩ { s with
       lanes := s.lanes.set i
         { l with counts := { l.counts with stretchTimeouts := count16 l.counts.stretchTimeouts } } } ∧
     exec (.arbLost i) s = ends ⟨.arbLost, [], 0⟩ { s with
       lanes := s.lanes.set i { l with counts := { l.counts with arbLosses := count16 l.counts.arbLosses } } } ∧
     exec (.busStuck i) s = ends ⟨.busStuck, [], 0⟩ s)

/-- The end of a transaction at the lanes. At its own lane (R55 step 3, R57) the transaction and the Reservation are gone; the
lane is IDLE and, in RUNNING, looks for work after OK, ADDR_NACK or DATA_NACK, and is RECOVERING with one more recovery
counted otherwise; R, the queues and the settings stay. Another lane changes only in that, in RUNNING and IDLE, it looks for
work where a slot or a block is freed (R43, R110), a target of it leaves QUARANTINED, or it gains a read. On every lane the
ALERT tier gains the one more read that an alert read with Follow-up set owes (R85), at its line's lane, and nothing else.
The lanes hold the Reservations of their transactions (R109), which `StepKeepsSpaceAccounts` says every step keeps. -/
def Obligations.EndFreesLane : Prop :=
  ∀ (s : State) (i : Fin 4) (x : Transaction), SpaceInv s → (s.lane i).txn = some x → ∀ (f : Final) (recovers : Bool),
    recovers = (f.status == .stretchTimeout || f.status == .arbLost || f.status == .busStuck || f.status == .aborted) →
    ∀ u : State, u = endTransaction i f s → ∀ more : Fin 4 → List (Fin 8),
    more = (fun k => match x.work with
      | .alert a =>
        if k = lineLane s a ∧ (s.line a).closing = false ∧ (s.line a).mode = .edge ∧ (s.line a).followUp = true ∧
            s.op = .running then [a] else []
      | .poll _ | .job _ | .probe => []) →
    u.lane i =
      { s.lane i with
          state := if recovers then .recovering else .idle
          txn := none
          reservation := .none
          fromFault := if recovers then false else (s.lane i).fromFault
          counts := if recovers then { (s.lane i).counts with recoveries := count16 (s.lane i).counts.recoveries }
            else (s.lane i).counts
          alertTier := (s.lane i).alertTier ++ more i
          lookOwed := if s.op = .running ∧ recovers = false then true else (s.lane i).lookOwed } ∧
    ∀ k, k ≠ i →
      u.lane k =
        { s.lane k with
            alertTier := (s.lane k).alertTier ++ more k
            lookOwed :=
              if s.op = .running ∧ (s.lane k).state = .idle ∧
                  (SpaceFreed s u ∨ more k ≠ [] ∨
                    ((s.target x.target).lane = k ∧ (s.target x.target).state = .quarantined ∧
                      (u.target x.target).state ≠ .quarantined)) then true
              else (s.lane k).lookOwed }

/-- The end of a scheduled poll (R55 step 2, R110, R113 to R118): discarded or ABORTED, its Reservation is released; else
one Completion is counted, and the outcome is reported when the mode is EVERY, the snapshot is not Valid, the status
differs from Last Status, or both are OK and the data differ (CHANGE) or the 16-bit value has moved by at least Threshold
(DELTA). A reported outcome writes the snapshot and becomes a new record, or merges into the linked record of a
keep-latest entry; any other is dropped. -/
def Obligations.PollOutcomeReported : Prop :=
  ∀ (s : State) (i : Fin 4) (x : Transaction), (s.lane i).txn = some x →
    ∀ p : Fin 48, x.work = .poll p → (s.lane i).reservation = .slotAndBlock →
    ∀ (f : Final) (u : State), u = endTransaction i f s → ∀ e : Poll, e = s.poll p → ∀ e' : Poll,
    e' = { e with counts := { e.counts with completions := count16 e.counts.completions } } →
    ∀ reported : Bool, reported = (e.defn.mode == .every || !e.snapshot.valid || f.status != e.snapshot.lastStatus ||
      (f.status == .ok && ((e.defn.mode == .change && f.data != e.snapshot.lastData) ||
        (e.defn.mode == .delta && decide (e.defn.threshold ≤
          valueChange e.defn.order e.snapshot.lastData f.data))))) →
    u.lines = s.lines ∧
    (x.discarded = true ∨ f.status = .aborted →
      u.polls = s.polls ∧ u.records = s.records ∧ u.pool = ⟨s.pool.free + 1, s.pool.lowWater⟩) ∧
    (x.discarded = false → f.status ≠ .aborted →
      (reported = false →
        u.polls = s.polls.set p e' ∧ u.records = s.records ∧ u.pool = ⟨s.pool.free + 1, s.pool.lowWater⟩) ∧
      (reported = true → ∀ snapshot,
        snapshot = ⟨true, f.status, if f.status = .ok then f.data else e.snapshot.lastData⟩ → ∀ data,
        data = (if f.status = .ok then some f.data else none) →
        (e.defn.keepLatest = false ∨ e.link = none →
          u.polls = s.polls.set p
            { e' with snapshot := snapshot
                      counts := { e'.counts with records := count16 e.counts.records }
                      link := if e.defn.keepLatest then some s.records.length else e.link } ∧
          u.records = s.records ++ [⟨.poll p x.generation 0, x.target, s.cycle, f.status, data⟩] ∧
          u.pool = ⟨s.pool.free + (if f.status = .ok then 0 else 1), s.pool.lowWater⟩) ∧
        (∀ k, e.link = some k → e.defn.keepLatest = true → ∀ g n t c st old,
          s.records[k]? = some ⟨.poll p g n, t, c, st, old⟩ →
          u.polls = s.polls.set p
            { e' with snapshot := snapshot
                      counts := { e'.counts with superseded := count16 e.counts.superseded } } ∧
          u.records = s.records.set k ⟨.poll p g (if n < 255 then n + 1 else n), t, s.cycle, f.status, data⟩ ∧
          u.pool = ⟨s.pool.free + (if old.isSome then 1 else 0) + (if f.status = .ok then 0 else 1),
            s.pool.lowWater⟩)))

/-- The value of a set of data bytes in DELTA mode, and the change of value, as R114 computes them. -/
def Obligations.DeltaComparesSignedValues : Prop :=
  (∀ (a b : Byte) (rest : List Byte),
    dataValue .big (a :: b :: rest) = (a ++ b : BitVec 16).toInt ∧
    dataValue .little (a :: b :: rest) = (b ++ a : BitVec 16).toInt) ∧
  (∀ (order : ValueOrder) (a b c d : Byte) (r q old new : List Byte), old = a :: b :: r → new = c :: d :: q →
    -32768 ≤ dataValue order new ∧ dataValue order new ≤ 32767 ∧
    (valueChange order old new : Int) = |dataValue order new - dataValue order old| ∧
    valueChange order old new ≤ 65535) ∧
  (∀ (e : Poll) (f : Final), e.defn.mode = .delta → e.snapshot.valid = true → e.snapshot.lastStatus = .ok →
    f.status = .ok →
    (e.reports f = true ↔ e.defn.threshold ≤ valueChange e.defn.order e.snapshot.lastData f.data)) ∧
  valueChange .big [0x00, 0x64] [0x00, 0xC8] = 100 ∧ valueChange .big [0x7F, 0xF0] [0x80, 0x10] = 65504 ∧
  valueChange .little [0x64, 0x00] [0x6A, 0x00] = 6 ∧ valueChange .big [0xFF, 0xFF] [0x00, 0x00] = 1

/-- The end of an alert read (R85, R55): one ALERT record in the reserved slot whatever the Report Mode, the snapshot of
the bound poll written unless the read was ABORTED or its definition has ended since, the block of an outcome without
data given back, and the line moved. The end of a running job (R70, R71): one JOB record with the final outcome and for a
WRITE the Acknowledged Count, the Data Block of a WRITE freed, and the reserved block of a READ that did not end OK. A
revival probe makes no record and frees nothing (R100). -/
def Obligations.AlertReadJobAndProbeEnd : Prop :=
  (∀ (s : State) (i : Fin 4) (x : Transaction), (s.lane i).txn = some x → ∀ a : Fin 8, x.work = .alert a →
     ∀ (f : Final) (u : State), u = endTransaction i f s → ∀ l : Line, l = s.line a →
     u.records = s.records ++ [⟨.alert a x.generation l.extraEdges, x.target, s.cycle, f.status,
       if f.status = .ok then some f.data else none⟩] ∧
     u.pool = ⟨s.pool.free + (if f.status = .ok then 0 else 1), s.pool.lowWater⟩ ∧
     u.polls = (if f.status = .aborted ∨ x.definitionGone = true then s.polls
       else s.polls.set l.boundPoll
         { s.poll l.boundPoll with snapshot := ⟨true, f.status,
             if f.status = .ok then f.data else (s.poll l.boundPoll).snapshot.lastData⟩ }) ∧
     u.lines = s.lines.set a
       (if l.closing then { l with state := .off, closing := false, followUp := false, extraEdges := 0 }
       else if s.op ≠ .running then { l with state := .armed, followUp := false, extraEdges := 0 }
       else if l.mode = .level then { l with state := .holdoff, extraEdges := 0 }
       else if l.followUp then
         { l with state := .pending, followUp := false, extraEdges := 0, triggers := count16 l.triggers }
       else { l with state := .armed, extraEdges := 0 }) ∧
     ∀ k, (u.lane k).alertTier = (s.lane k).alertTier ++
       (if k = lineLane s a ∧ l.closing = false ∧ s.op = .running ∧ l.mode = .edge ∧ l.followUp = true then [a] else [])) ∧
  (∀ (s : State) (i : Fin 4) (x : Transaction), (s.lane i).txn = some x →
     ∀ (f : Final) (u : State), u = endTransaction i f s →
     (x.work = .probe → u.records = s.records ∧ u.pool = s.pool ∧ u.polls = s.polls ∧ u.lines = s.lines) ∧
     (∀ j, x.work = .job j →
       u.polls = s.polls ∧ u.lines = s.lines ∧
       u.records = s.records ++ [⟨.job j.number j.tag
         (if j.kind = .write ∧ f.status = .ok then j.byteCount
          else if j.kind = .write ∧ f.status = .dataNack then f.acked else 0),
         j.target, s.cycle, f.status, if j.kind = .read ∧ f.status = .ok then some f.data else none⟩] ∧
       u.pool = ⟨s.pool.free + (if j.data.isSome then 1 else 0) + (if j.kind = .read ∧ f.status ≠ .ok then 1 else 0),
         s.pool.lowWater⟩))

/-- The end of a recovery procedure (R57, R59, R61): IDLE after the STOP condition, with a notice where it began by leaving
FAULTED; or FAULTED with its cause kept, one fault counted and a notice. Every waiting LANE_RESET is answered in the
order taken, and DRAINING may end. On a lane that is not RECOVERING the rows are no happenings (the model's,
notes/assumptions/6.md). On the bus the procedure sends as many clock pulses as SDA is found low, twelve at most, and then
STOP; SDA low after the twelfth pulse and SCL low for 25 ms end it, and a STOP that finds SDA low takes it back to the
pulses, which are counted over the whole procedure (R57); the rows that report its ends are the model's
(notes/assumptions/22.md). -/
def Obligations.RecoveryEnds : Prop :=
  (∀ (s : State) (i : Fin 4) (l : Lane), l = s.lane i → ∀ replies : LaneState → List Reply,
     replies = (fun st => l.waitingResets.map fun tag => ⟨.command, 0x8E, tag, [0x00, byte i.val, st.code]⟩) →
     ∀ faulted : FaultCause → LaneCause → State,
     faulted = (fun cause notice => post (.laneState i .faulted notice)
       { s with lanes := s.lanes.set i { l with state := .faulted, lastFault := cause, waitingResets := []
                                                fromFault := false
                                                counts := { l.counts with faults := count16 l.counts.faults } } }) →
     (l.state ≠ .recovering → ∀ result,
       exec (.recoveryEnd i result) s = .next s ∧ exec (.recoverySclTimeout i) s = .next s) ∧
     (l.state = .recovering →
       (∀ u, u = { s with
           lanes := s.lanes.set i { l with state := .idle, waitingResets := [], fromFault := false
                                           lookOwed := if s.op = .running then true else l.lookOwed } } →
         exec (.recoveryEnd i .busFree) s =
           .next (arbitrate (finishDrain (replies .idle)
             (if l.fromFault then post (.laneState i .idle .recovered) u else u)))) ∧
       exec (.recoveryEnd i .sdaHeld) s =
         .next (arbitrate (finishDrain (replies .faulted) (faulted .sdaHeld .faultSdaHeld))) ∧
       exec (.recoverySclTimeout i) s =
         .next (arbitrate (finishDrain (replies .faulted) (faulted .sclHeld .faultSclHeld))))) ∧
  (∀ n ≤ 12, ∀ pulses : List RecoveryMark, pulses = List.replicate n .pulse →
     ∀ low : List LineAnswer, low = List.replicate n (.sda false) →
     recoveryCourse 12 (low ++ [.sda true, .sda true]) = (pulses ++ [.stop], .busFree) ∧
     recoveryCourse 12 (low ++ [.sclHeld]) = (pulses, .sclHeld)) ∧
  recoveryCourse 12 (List.replicate 13 (.sda false)) = (List.replicate 12 .pulse, .sdaHeld) ∧
  (∀ (left : Nat) (found : List LineAnswer) (r : List RecoveryMark × RecoveryEnd),
     r = recoveryCourse left (.sda false :: found) →
     recoveryCourse left (.sda true :: .sda false :: found) = (.stopFailed :: r.1, r.2)) ∧
  ∀ i : Fin 4, RecoveryEnd.row i .busFree = some (.recoveryEnd i .busFree) ∧
    RecoveryEnd.row i .sdaHeld = some (.recoveryEnd i .sdaHeld) ∧
    RecoveryEnd.row i .sclHeld = some (.recoverySclTimeout i)

/-! ### Jobs (R65 to R78) -/

/-- SUBMIT in RUNNING with a BODY of its length (R67 checks 3 to 5): a Target, Kind or Byte Count out of its range gives
BAD_VALUE; then the reference and resource checks in their order. An accepted SUBMIT (R66, R68): the job takes the first
number from the counter on that no queued or running job holds, the counter moves past it, a WRITE with data claims a
block, the job joins the tail of its lane's queue and the lane is told. That the numbers passed over are those held when the
SUBMIT is accepted, not those held when the counter last moved, is the model's choice (notes/assumptions/31.md). -/
def Obligations.SubmitChecksAndQueuesJob : Prop :=
  (∀ (s : State) (tag : Byte), Admits s tag → s.op = .running →
     (∀ (t kind r1 r0 n : Byte) (data : List Byte),
       data.length = (if kind = 0x01 then n.toNat else 0) →
       ¬ (t.toNat < 32 ∧ kind.toNat < 3 ∧ (kind = 0x00 → 1 ≤ n.toNat ∧ n.toNat ≤ 32) ∧
         (kind = 0x01 → n.toNat ≤ 32)) →
       exec (.submit tag (t :: kind :: r1 :: r0 :: n :: data)) s = .next (arbitrate (denied tag 0x93 0x06 s))) ∧
     (∀ (t : Fin 32) (kind : Operation) (register : Word16) (n : Byte) (data : List Byte),
       data.length = (if kind = .write then n.toNat else 0) → (kind = .read → 1 ≤ n.toNat) →
       (kind ≠ .probe → n.toNat ≤ 32) → ∀ count : Nat, count = (if kind = .probe then 0 else n.toNat) →
       ∀ x : Target, x = s.target t → ∀ l : Lane, l = s.lane x.lane → ∀ status : Byte,
       (if x.state = .free then some 0x08
         else if kind ≠ .probe ∧ 256 ^ x.width.val ≤ register.toNat then some 0x06
         else if x.state = .quarantined then some 0x10
         else if l.state = .off ∨ l.state = .faulted then some 0x0F
         else if l.capacity < costOf kind x.width.val count then some 0x0E
         else if 8 ≤ l.jobs.length then some 0x0C
         else if kind = .write ∧ 1 ≤ count ∧ s.pool.free = 0 then some 0x0D
         else none) = some status →
       exec (.submit tag ([byte t.val, kind.code] ++ word register.toNat ++ [n] ++ data)) s =
         .next (arbitrate (denied tag 0x93 status s)))) ∧
  (∀ (s : State) (tag : Byte), Admits s tag → s.op = .running → JobInv s →
     ∀ (t : Fin 32) (kind : Operation) (register : Word16) (n : Byte) (data : List Byte),
     data.length = (if kind = .write then n.toNat else 0) → (kind = .read → 1 ≤ n.toNat) →
     (kind ≠ .probe → n.toNat ≤ 32) → ∀ count : Nat, count = (if kind = .probe then 0 else n.toNat) →
     ∀ x : Target, x = s.target t → ∀ l : Lane, l = s.lane x.lane → x.state ≠ .free → (kind ≠ .probe → register.toNat < 256 ^ x.width.val) →
     x.state ≠ .quarantined → l.state ≠ .off → l.state ≠ .faulted → costOf kind x.width.val count ≤ l.capacity →
     l.jobs.length < 8 → ∀ block : Bool, block = (kind == .write && decide (1 ≤ count)) →
     (block = true → 1 ≤ s.pool.free) → ∀ number : Nat, 1 ≤ number → number ≤ 65535 → number ∉ heldNumbers s →
     (∀ m, 1 ≤ m → m ≤ 65535 → m ∉ heldNumbers s →
       (number + 65535 - s.nextJob) % 65535 ≤ (m + 65535 - s.nextJob) % 65535) →
     exec (.submit tag ([byte t.val, kind.code] ++ word register.toNat ++ [n] ++ data)) s =
       .next (arbitrate (replied tag 0x93 (0x00 :: word number)
         { admitted tag s with
             nextJob := if number = 65535 then 1 else number + 1
             pool := if block then ⟨s.pool.free - 1, min s.pool.lowWater (s.pool.free - 1)⟩ else s.pool
             lanes := s.lanes.set x.lane (told s.op
               { l with jobs := l.jobs ++ [{ number := number, tag := tag, target := t, kind := kind
                                             register := if kind = .probe then 0 else register, byteCount := count
                                             data := if block then some data else none, cancelling := false }] }) })))

/-- CANCEL (R73): number 0 gives BAD_VALUE, a number of no queued or running job NOT_FOUND, of a running job RUNNING, a
queued job without a free record slot NO_SPACE; otherwise the job leaves its queue wherever it stands, its record
CANCELLED is made, its Data Block freed, the lane told, and DRAINING may end (R156). -/
def Obligations.CancelRemovesJob : Prop :=
  ∀ (s : State) (tag : Byte) (number : Nat), Admits s tag → s.op ≠ .init → JobInv s → number ≤ 65535 →
    (number = 0 ∨ number ∉ heldNumbers s ∨ (∃ i, ∃ j ∈ (s.lane i).runningJob, j.number = number) →
      exec (.cancel tag (word number)) s = .next (arbitrate (denied tag 0x94
        (if number = 0 then 0x06 else if number ∈ heldNumbers s then 0x11 else 0x12) s))) ∧
    (∀ i before j after, (s.lane i).jobs = before ++ j :: after → j.number = number →
      (48 ≤ s.records.length + s.reservations →
        exec (.cancel tag (word number)) s = .next (arbitrate (denied tag 0x94 0x0D s))) ∧
      (s.records.length + s.reservations < 48 →
        exec (.cancel tag (word number)) s =
          .next (arbitrate (finishDrain [⟨.command, 0x94, tag, 0x00 :: word number⟩]
            { admitted tag s with
                records := s.records ++ [⟨.job number j.tag 0, j.target, s.cycle, .cancelled, none⟩]
                pool := { s.pool with free := s.pool.free + (if j.data.isSome then 1 else 0) }
                lanes := Table.ofFn fun k =>
                  if k = i then told s.op { s.lane i with jobs := before ++ after }
                  else if j.data.isSome then told s.op (s.lane k) else s.lane k }))))

/-- FLUSH_LANE (R75): a number outside 0 to 3 gives BAD_VALUE, fewer free record slots than queued jobs NO_SPACE with
nothing changed; otherwise every queued job of the lane ends CANCELLED, oldest first, the queue is empty, the Data Blocks
are freed, the lane is told, and DRAINING may end (R156). The drain removes the marked job at the head of a queue when a
record slot is free (R77) and counts it for the STOP reply (R156), and waits for a slot
where none is free; that the row leaves the state outside DRAINING and with an empty queue is the model's reading
(notes/assumptions/6.md). -/
def Obligations.FlushAndDrainCancelJobs : Prop :=
  (∀ (s : State) (tag : Byte), Admits s tag → s.op ≠ .init →
     (∀ i : Byte, 4 ≤ i.toNat → exec (.flushLane tag [i]) s = .next (arbitrate (denied tag 0x95 0x06 s))) ∧
     (∀ (i : Fin 4) (jobs : List Job), jobs = (s.lane i).jobs →
       (48 - (s.records.length + s.reservations) < jobs.length →
         exec (.flushLane tag [byte i.val]) s = .next (arbitrate (denied tag 0x95 0x0D s))) ∧
       (jobs.length ≤ 48 - (s.records.length + s.reservations) →
         exec (.flushLane tag [byte i.val]) s =
           .next (arbitrate (finishDrain [⟨.command, 0x95, tag, [0x00, byte i.val, byte jobs.length]⟩]
             { admitted tag s with
                 records := s.records ++ jobs.map fun j =>
                   ⟨.job j.number j.tag 0, j.target, s.cycle, .cancelled, none⟩
                 pool := { s.pool with free := s.pool.free + jobs.countP fun j => j.data.isSome }
                 lanes := Table.ofFn fun k =>
                   if k = i then (if jobs = [] then s.lane i else told s.op { s.lane i with jobs := [] })
                   else if jobs.any fun j => j.data.isSome then told s.op (s.lane k) else s.lane k }))))) ∧
  (∀ (s : State) (i : Fin 4),
     (s.op ≠ .draining ∨ (s.lane i).jobs = [] ∨ 48 ≤ s.records.length + s.reservations →
       exec (.drainRemoval i) s = .next s) ∧
     (∀ j rest, (s.lane i).jobs = j :: rest → s.op = .draining → j.cancelling = true →
       s.records.length + s.reservations < 48 →
       exec (.drainRemoval i) s =
         .next (arbitrate (finishDrain []
           { s with
               drainCancelled := s.drainCancelled + 1
               records := s.records ++ [⟨.job j.number j.tag 0, j.target, s.cycle, .cancelled, none⟩]
               pool := { s.pool with free := s.pool.free + (if j.data.isSome then 1 else 0) }
               lanes := s.lanes.set i { s.lane i with jobs := rest } }))))

/-! ### Alert lines (R79 to R93) -/

/-- SET_ALERT, enable form: a field out of its range gives BAD_VALUE, a FREE Bound Poll NO_ENTRY, a PENDING or RUNNING line
BUSY (R88); otherwise the line takes the settings and is ARMED with the level of its input, and in RUNNING a LEVEL line
that is active triggers at once (R89, R82). Disable form, by the line's state (R90): only a line number out of range is
refused, and the settings after Enabled are not looked at (R88, R159). -/
def Obligations.SetAlertArmsOrClosesLine : Prop :=
  (∀ (s : State) (tag : Byte), Admits s tag → s.op ≠ .init →
     (∀ line polarity mode filter poll : Byte,
       ¬ (line.toNat < 8 ∧ polarity.toNat < 2 ∧ mode.toNat < 2 ∧ filter.toNat < 16 ∧ poll.toNat < 48) →
       exec (.setAlertEnable tag line [polarity, mode, filter, poll]) s =
         .next (arbitrate (denied tag 0x96 0x06 s))) ∧
     (∀ (a : Fin 8) (polarity : Polarity) (mode : AlertMode) (filter : Fin 16) (p : Fin 48) (l : Line),
       l = { enabled := true, polarity := polarity, mode := mode, filter := filter, boundPoll := p, state := .armed
             level := (match polarity with | .high => s.alertPins.get a | .low => !s.alertPins.get a)
             followUp := false, closing := false, extraEdges := 0, triggers := (s.line a).triggers } → ∀ u : State,
       u = { admitted tag s with lines := s.lines.set a l } →
       exec (.setAlertEnable tag (byte a.val) [polarity.code, mode.code, byte filter.val, byte p.val]) s =
         .next (arbitrate (
           if (s.poll p).state = .free then denied tag 0x96 0x08 s
           else if (s.line a).state = .pending ∨ (s.line a).state = .running then denied tag 0x96 0x0B s
           else if s.op = .running ∧ mode = .level ∧ l.level = true then
             replied tag 0x96 [0x00, byte a.val, 0x02] (triggeredAt a u)
           else replied tag 0x96 [0x00, byte a.val, 0x01] u)))) ∧
  (∀ (s : State) (tag x y z w : Byte), Admits s tag → s.op ≠ .init →
     (∀ line : Byte, 8 ≤ line.toNat →
       exec (.setAlertDisable tag line [x, y, z, w]) s = .next (arbitrate (denied tag 0x96 0x06 s))) ∧
     (∀ (a : Fin 8) (l : Line), l = s.line a → ∀ off : Line,
       off = { l with enabled := false, level := false, followUp := false, extraEdges := 0, state := .off } →
       exec (.setAlertDisable tag (byte a.val) [x, y, z, w]) s =
         .next (arbitrate (
           match l.state with
           | .off => replied tag 0x96 [0x00, byte a.val, 0x00] (admitted tag s)
           | .armed | .holdoff =>
             replied tag 0x96 [0x00, byte a.val, 0x00] { admitted tag s with lines := s.lines.set a off }
           | .pending =>
             replied tag 0x96 [0x00, byte a.val, 0x00]
               { admitted tag s with
                   lines := s.lines.set a off
                   lanes := s.lanes.set (lineLane s a) (told s.op { s.lane (lineLane s a) with
                     alertTier := (s.lane (lineLane s a)).alertTier.filter (· != a) }) }
           | .running =>
             replied tag 0x96 [0x00, byte a.val, 0x03]
               { admitted tag s with
                   lines := s.lines.set a
                     { l with enabled := false, level := false, followUp := false, closing := true } }))))

/-- READ_ALERT: a number outside 0 to 7 gives BAD_VALUE; otherwise the reply carries the fields of R79, the input level,
the lane of the Bound Poll and the position of a pending read (R91, R159), and nothing else changes. The order and sizes of the
fields are read from R91 and R159 (the model's, notes/assumptions/24.md). -/
def Obligations.ReadAlertReportsLine : Prop :=
  ∀ (s : State) (tag : Byte), Admits s tag → s.op ≠ .init →
    (∀ a : Byte, 8 ≤ a.toNat → exec (.readAlert tag [a]) s = .next (arbitrate (denied tag 0x97 0x06 s))) ∧
    (∀ (a : Fin 8) (l : Line), l = s.line a →
      exec (.readAlert tag [byte a.val]) s =
        .next (arbitrate (replied tag 0x97
          ([0x00, byte a.val, flag l.enabled, l.polarity.code, l.mode.code, byte l.filter.val, byte l.boundPoll.val,
              l.state.code, flag l.level, flag l.followUp, flag l.closing, byte l.extraEdges]
            ++ word l.triggers
            ++ [flag (match l.polarity with | .high => s.alertPins.get a | .low => !s.alertPins.get a),
                if (s.poll l.boundPoll).state = .free then 0xFF else byte (lineLane s a).val,
                if l.state = .pending then byte ((s.lane (lineLane s a)).alertTier.idxOf a + 1) else 0x00])
          (admitted tag s))))

/-- An alert input changes level, and the filter of its line takes a change (R80): at once with f = 0, at the expiry of its
time otherwise. The Filtered Level follows; a change to active triggers an ARMED line in RUNNING (R82), and owes one more
read and counts an edge on an EDGE line whose read is pending or running there, Closing clear (R83). At the evaluation that
START owes (R93, R154) every enabled LEVEL line that is ARMED and active triggers, the others stay; which of several
triggers first is open (notes/assumptions/8.md). That a filter expiry with no change to take, and an evaluation that is not
owed, leave the state is the model's reading (notes/assumptions/6.md, 25.md). -/
def Obligations.LevelChangesTriggerLines : Prop :=
  (∀ (s : State) (a : Fin 8) (high : Bool) (active : State → Bool),
     active = (fun u => match (u.line a).polarity with | .high => u.alertPins.get a | .low => !u.alertPins.get a) →
     ∀ takes : State → State,
     takes = (fun u =>
       if active u = true ∧ (u.line a).state = .armed ∧ u.op = .running then
         triggeredAt a { u with lines := u.lines.set a { u.line a with level := true } }
       else if active u = true ∧ (u.line a).mode = .edge ∧ u.op = .running ∧ (u.line a).closing = false ∧
           ((u.line a).state = .pending ∨ (u.line a).state = .running) then
         { u with lines := u.lines.set a
                    { u.line a with level := true, followUp := true, extraEdges := count8 (u.line a).extraEdges } }
       else { u with lines := u.lines.set a { u.line a with level := active u } }) →
     (exec (.alertInputChange a high) s =
       if (s.line a).enabled = true ∧ (s.line a).filter = 0 ∧
           (s.line a).level ≠ active { s with alertPins := s.alertPins.set a high } then
         .next (arbitrate (takes { s with alertPins := s.alertPins.set a high }))
       else .next { s with alertPins := s.alertPins.set a high }) ∧
     exec (.alertFilterExpiry a) s =
       if (s.line a).enabled = true ∧ (s.line a).level ≠ active s then .next (arbitrate (takes s))
       else .next s) ∧
  (∀ s : State,
     (s.op ≠ .running ∨ s.evaluationOwed = false → exec .alertEvaluation s = .next s) ∧
     (s.op = .running → s.evaluationOwed = true →
       ∃ (lines : List (Fin 8)) (script : List (List Nat)) (draws : Nat), lines.Nodup ∧
         (∀ a, a ∈ lines ↔ (s.line a).enabled = true ∧ (s.line a).mode = .level ∧ (s.line a).state = .armed ∧
           (s.line a).level = true) ∧
         exec .alertEvaluation s = .next (arbitrate (lines.foldl (fun u a => triggeredAt a u)
           { s with evaluationOwed := false, script := script, draws := draws }))))

/-! ### PING, GET_STATUS, CLEAR_COUNTERS, GRANT and notices (R147 to R149, R140, R122 to R125) -/

/-- PING (R147): a BODY of 248 bytes gives BAD_LENGTH; any shorter one is echoed and nothing else changes. The reply goes
out ahead of every waiting notice and record: where the transmitter is free it is taken at once. -/
def Obligations.PingEchoesBody : Prop :=
  ∀ (s : State) (tag : Byte) (body : List Byte), Admits s tag → s.op ≠ .init →
    (body.length = 248 → exec (.ping tag body) s = .next (arbitrate (denied tag 0x81 0x05 s))) ∧
    (body.length ≤ 247 →
      exec (.ping tag body) s = .next (arbitrate (replied tag 0x81 (0x00 :: body) (admitted tag s))) ∧
      (Settled s → s.transmitter = none →
        arbitrate (replied tag 0x81 (0x00 :: body) (admitted tag s)) =
          { s with receiver := Receiver.hunting true
                   transmitter := some ⟨.reply .command, frameBytes 0x81 tag (0x00 :: body)⟩ }))

/-- GET_STATUS (R148): the reply carries each field as it stands, the In Flight count with the command's own tag, and
nothing else changes. The sizes of the fields are read from R159 (the model's, notes/assumptions/24.md). -/
def Obligations.GetStatusReportsPart : Prop :=
  ∀ (s : State) (tag : Byte), Admits s tag → s.op ≠ .init →
    exec (.getStatus tag []) s =
      .next (arbitrate (replied tag 0x82
        ([0x00, s.op.code] ++ word s.cycle.toNat ++ word s.credit ++ word s.sequence.toNat
          ++ [byte s.records.length, byte ((List.finRange 4).countP fun i => (s.lane i).reservation != .none),
              byte s.pool.free, byte s.pool.lowWater, byte s.notices.length, byte s.lostNotices,
              byte (s.inFlight.length + 1), (s.lane 0).state.code, (s.lane 1).state.code, (s.lane 2).state.code,
              (s.lane 3).state.code]
          ++ word s.errors.gap ++ word s.errors.length ++ word s.errors.check ++ word s.errors.overrun)
        (admitted tag s)))

/-- CLEAR_COUNTERS (R149): a BODY of another length gives BAD_LENGTH, a Class outside the seven BAD_VALUE; otherwise the counters of the class are cleared, the
low-water mark being set to the free-block count, and everything else stays. -/
def Obligations.ClearCountersByClass : Prop :=
  ∀ (s : State) (tag : Byte), Admits s tag → s.op ≠ .init →
    (∀ body : List Byte, body.length ≠ 1 →
      exec (.clearCounters tag body) s = .next (arbitrate (denied tag 0x83 0x05 s))) ∧
    ∀ c : Byte, exec (.clearCounters tag [c]) s =
      .next (arbitrate (
        if 7 ≤ c.toNat then denied tag 0x83 0x06 s
        else replied tag 0x83 [0x00, c]
          { admitted tag s with
              targets := if c = 0x00 ∨ c = 0x01 then s.targets.map fun t => { t with counts := ⟨0, 0, 0, 0, 0⟩ }
                else s.targets
              polls := if c = 0x00 ∨ c = 0x02 then s.polls.map fun p => { p with counts := ⟨0, 0, 0, 0, 0, 0, 0⟩ }
                else s.polls
              lanes := if c = 0x00 ∨ c = 0x03 then s.lanes.map fun l => { l with counts := ⟨0, 0, 0, 0, 0, 0, 0⟩ }
                else s.lanes
              lines := if c = 0x00 ∨ c = 0x04 then s.lines.map fun l => { l with triggers := 0 } else s.lines
              pool := if c = 0x00 ∨ c = 0x05 then ⟨s.pool.free, s.pool.free⟩ else s.pool
              errors := if c = 0x00 ∨ c = 0x06 then ⟨0, 0, 0, 0⟩ else s.errors }))

/-- GRANT (R140): its two checks; an accepted command adds the Amount up to 4095 and replies with the resulting credit, and
where the transmitter is free that reply is the first thing taken. -/
def Obligations.GrantRaisesCredit : Prop :=
  ∀ (s : State) (tag : Byte), Admits s tag → s.op ≠ .init →
    (∀ body : List Byte, body.length ≠ 1 →
      exec (.grant tag body) s = .next (arbitrate (denied tag 0x98 0x05 s))) ∧
    (∀ (amount : Byte) (u : State),
      u = replied tag 0x98 (0x00 :: word (min (s.credit + amount.toNat) 4095))
        { admitted tag s with credit := min (s.credit + amount.toNat) 4095 } →
      exec (.grant tag [amount]) s =
        .next (arbitrate (if amount.toNat < 1 then denied tag 0x98 0x06 s else u)) ∧
      (Settled s → s.transmitter = none →
        arbitrate u =
          { s with receiver := Receiver.hunting true
                   credit := min (s.credit + amount.toNat) 4095
                   transmitter := some ⟨.reply .command,
                     frameBytes 0x98 tag (0x00 :: word (min (s.credit + amount.toNat) 4095))⟩ }))

/-- A posting at the Notice Queue (R125, R123, R124): written into the waiting notice of its key, which keeps its place,
states replaced and counts added up to 65535; or a new notice at the tail; or dropped and counted where 16 wait. -/
def Obligations.PostingMergesJoinsOrDrops : Prop :=
  ∀ (s : State) (b : NoticeBody),
    (∀ before n after, s.notices = before ++ n :: after → n.body.key = b.key →
      (∀ m ∈ before ++ after, m.body.key ≠ b.key) →
      post b s = { s with notices := before ++
        ⟨match n.body, b with
          | .laneLoad l m k, .laneLoad _ m' k' =>
            .laneLoad l ⟨min (m.shed + m'.shed) 65535, min (m.late + m'.late) 65535,
              min (m.quarantined + m'.quarantined) 65535, min (m.laneDown + m'.laneDown) 65535⟩ (min (k + k') 65535)
          | .hostErrors e, .hostErrors e' =>
            .hostErrors ⟨min (e.gap + e'.gap) 65535, min (e.length + e'.length) 65535,
              min (e.check + e'.check) 65535, min (e.overrun + e'.overrun) 65535⟩
          | _, _ => b,
          if n.occurrences < 255 then n.occurrences + 1 else n.occurrences⟩ :: after }) ∧
    ((∀ m ∈ s.notices, m.body.key ≠ b.key) →
      post b s =
        if s.notices.length < 16 then { s with notices := s.notices ++ [⟨b, 1⟩] }
        else { s with lostNotices := if s.lostNotices < 255 then s.lostNotices + 1 else s.lostNotices })

/-! ### Costs and capacities (R17, R18, R41) -/

/-- What an attempt costs, sends and puts on the bus. It is charged the bytes of its segments plus one byte-time for each
segment (R41), which is the cost by operation, width and byte count that the rule's table gives. Its segments are those of
R50: the address byte with the read or write bit lowest, the register bytes high byte first, the bytes of a WRITE. SDA
changes while SCL is low except at START, repeated START and STOP (R48). Each byte slot is eight bits, most significant first
(the model's, notes/assumptions/30.md), and the acknowledge bit of the side that receives; the part acknowledges every byte
it reads but the last (R51). After a byte of the part that is not acknowledged the part issues STOP, and the attempt ends
ADDR_NACK or DATA_NACK with the bytes before it; with none the attempt ends at its STOP with OK (R50, R51). With the idle
check failed the part drives nothing (R49). SCL held low cuts the attempt short in any bit, before a repeated START or before
STOP (R52), SDA low only where the part has released it and reads it back (R53), an abort at any point (R60): the part then
releases both lines and sends nothing further; elsewhere the attempt goes on. The row that reports each course is the
model's (notes/assumptions/22.md). -/
def Obligations.CostCountsSegments : Prop :=
  (∀ (t : Target) (op : Operation) (register : Word16) (n : Nat) (data : List Byte),
     (op = .write → data.length = n) →
     ((segmentsOf t op register n data).map fun g => 1 + g.written.length + g.reads + 1).sum =
       costOf op t.width.val n ∧
     costOf op t.width.val n = (match op with
       | .read => if t.width = 0 then n + 2 else t.width.val + n + 4
       | .write => t.width.val + n + 2
       | .probe => 2)) ∧
  (∀ (t : Target) (register : Word16) (n : Nat) (data : List Byte) (sendTo readFrom : Byte) (regs : List Byte),
     sendTo = BitVec.ofNat 8 (2 * t.busAddress.toNat) → readFrom = BitVec.ofNat 8 (2 * t.busAddress.toNat + 1) →
     regs = (if t.width = 0 then [] else if t.width = 1 then [BitVec.ofNat 8 register.toNat]
       else [BitVec.ofNat 8 (register.toNat / 256), BitVec.ofNat 8 register.toNat]) →
     segmentsOf t .read register n data =
       (if t.width = 0 then [⟨readFrom, [], n⟩] else [⟨sendTo, regs, 0⟩, ⟨readFrom, [], n⟩]) ∧
     segmentsOf t .write register n data = [⟨sendTo, regs ++ data, 0⟩] ∧
     segmentsOf t .probe register n data = [⟨sendTo, [], 0⟩] ∧
     addressByte t.busAddress false = sendTo ∧ addressByte t.busAddress true = readFrom ∧
     registerBytes t.width register = regs) ∧
  (BusMark.levels .start = [(true, true), (true, false), (false, false)] ∧
    BusMark.levels .repeatedStart = [(false, true), (true, true), (true, false), (false, false)] ∧
    BusMark.levels .stop = [(false, false), (true, false), (true, true)] ∧
    BusMark.levels .release = [(true, true)] ∧
    ∀ side level, BusMark.levels (.bit side level) = [(false, level), (true, level), (false, level)]) ∧
  (∀ bits : Side → Byte → List BusMark,
     bits = (fun side b => [7, 6, 5, 4, 3, 2, 1, 0].map fun k => .bit side (b.getLsbD k)) →
     ∀ sent : List Byte → List BusMark, sent = (fun bs => bs.flatMap fun b => bits .part b ++ [.bit .target false]) →
     ∀ refused : Byte → List BusMark, refused = (fun b => bits .part b ++ [.bit .target true, .stop]) →
     ∀ (i : Fin 4) (a : Byte) (w : List Byte),
     (Course.marks [⟨a, w, 0⟩] [] (.carried none) = .start :: (sent (a :: w) ++ [.stop]) ∧
       Course.row i [⟨a, w, 0⟩] [] (.carried none) = some (.transactionEnd i (.completed []))) ∧
     (∀ (gs : List Segment) (data before after : List Byte) (b : Byte), a :: w = before ++ b :: after →
       Course.marks (⟨a, w, 0⟩ :: gs) data (.carried (some before.length)) = .start :: (sent before ++ refused b) ∧
       Course.row i (⟨a, w, 0⟩ :: gs) data (.carried (some before.length)) =
         some (if before = [] then .attemptAddrNack i else .transactionEnd i (.notAcknowledged (before.length - 1)))) ∧
     (∀ (c : Byte) (n : Nat) (data : List Byte), data.length = n →
       ∀ reads : List BusMark,
       reads = (match data.getLast? with
         | some last => data.dropLast.flatMap (fun b => bits .target b ++ [.bit .part false])
             ++ (bits .target last ++ [.bit .part true])
         | none => []) →
       Course.marks [⟨c, [], n⟩] data (.carried none) = .start :: (sent [c] ++ reads ++ [.stop]) ∧
       Course.row i [⟨c, [], n⟩] data (.carried none) = some (.transactionEnd i (.completed data)) ∧
       Course.marks [⟨c, [], n⟩] data (.carried (some 0)) = .start :: refused c ∧
       Course.row i [⟨c, [], n⟩] data (.carried (some 0)) = some (.attemptAddrNack i) ∧
       Course.marks [⟨a, w, 0⟩, ⟨c, [], n⟩] data (.carried none) =
         .start :: (sent (a :: w) ++ .repeatedStart :: (sent [c] ++ reads ++ [.stop])) ∧
       Course.row i [⟨a, w, 0⟩, ⟨c, [], n⟩] data (.carried none) = some (.transactionEnd i (.completed data)) ∧
       Course.marks [⟨a, w, 0⟩, ⟨c, [], n⟩] data (.carried (some (w.length + 1))) =
         .start :: (sent (a :: w) ++ .repeatedStart :: refused c) ∧
       Course.row i [⟨a, w, 0⟩, ⟨c, [], n⟩] data (.carried (some (w.length + 1))) = some (.attemptAddrNack i))) ∧
  ∀ (i : Fin 4) (gs : List Segment) (data : List Byte) (nack : Option Nat) (count : Nat),
    Course.marks gs data .busStuck = [] ∧ Course.row i gs data .busStuck = some (.busStuck i) ∧
    ∀ (cause : Cut) (whole : List BusMark), whole = Course.marks gs data (.carried nack) →
      ∀ strikes : BusMark → Prop,
      strikes = (fun m => match cause with
        | .stretchTimeout => m = .repeatedStart ∨ m = .stop ∨ ∃ side level, m = .bit side level
        | .arbLost => m = .repeatedStart ∨ m = .stop ∨ m = .bit .part true
        | .aborted => True) →
      (∀ m, whole[count]? = some m → strikes m →
        Course.marks gs data (.cut cause nack count) = whole.take count ++ [.release] ∧ .stop ∉ whole.take count ∧
        Course.row i gs data (.cut cause nack count) = (match cause with
          | .stretchTimeout => some (.stretchTimeout i)
          | .arbLost => some (.arbLost i)
          | .aborted => none)) ∧
      ((∀ m, whole[count]? = some m → ¬ strikes m) →
        Course.marks gs data (.cut cause nack count) = whole ∧
        Course.row i gs data (.cut cause nack count) = Course.row i gs data (.carried nack))

/-! ### Invariants -/

/-- The invariants hold right after a reset. -/
def Obligations.ResetMeetsInvariants : Prop :=
  SpaceInv State.reset ∧ TagInv State.reset ∧ AlertInv State.reset ∧ HealthInv State.reset ∧ JobInv State.reset ∧
    LinkInv State.reset ∧ QuietInv State.reset ∧ ScheduleInv State.reset ∧ BindingInv State.reset ∧
    NoticeInv State.reset ∧ CapacityInv State.reset ∧ PortInv State.reset ∧ Settled State.reset

/-- Blocks and record slots are accounted for at every step (R106, R109): free blocks and held blocks are 64, records and
reservations at most 48, and a lane holds exactly the Reservation of its transaction. -/
def Obligations.StepKeepsSpaceAccounts : Prop :=
  ∀ s t : State, SpaceInv s → step s = .next t → SpaceInv t

/-- The in-flight tag set is kept at every step (R133, R146): at most 8 tags, never 0, never one twice, exactly the tags
whose reply has not been taken; and at most four refusals wait (R134). -/
def Obligations.StepKeepsTagDiscipline : Prop :=
  ∀ s t : State, TagInv s → step s = .next t → TagInv t

/-- Alert lines, ALERT tiers and running reads agree at every step (R81, R79, R26). -/
def Obligations.StepKeepsAlertLines : Prop :=
  ∀ s t : State, AlertInv s → step s = .next t → AlertInv t

/-- Target health is kept at every step (R94, R97, R99): F and State agree, FREE entries hold zeros, and the PROBE tiers
hold each probe of a QUARANTINED target at most once. -/
def Obligations.StepKeepsTargetHealth : Prop :=
  ∀ s t : State, HealthInv s → step s = .next t → HealthInv t

/-- Jobs are kept at every step (R65, R66): at most 8 in a queue, each of a bound target of its lane, no two with one
number. -/
def Obligations.StepKeepsJobs : Prop :=
  ∀ s t : State, JobInv s → step s = .next t → JobInv t

/-- A keep-latest link names a waiting record of the definition in force at every step (R117), so a merge never reaches a
record of another definition. -/
def Obligations.StepKeepsRecordLinks : Prop :=
  ∀ s t : State, LinkInv s → step s = .next t → LinkInv t

/-- What STANDBY, DRAINING and INIT exclude is excluded at every step (R151, R64, R76, R93, R152). -/
def Obligations.StepKeepsQuietStates : Prop :=
  ∀ s t : State, QuietInv s → step s = .next t → QuietInv t

/-- Each of the smaller invariants is kept at every step: work lists hold ACTIVE polls of their lane's bound targets, each
once, and definitions stay in range (R29, R19); no two bound entries share lane and address (R4); the Notice Queue (R122);
C and B derived and R at most C (R17, R40); the receiver and the credit (R130, R138); and the arbiter leaves nothing it
could take (R136). -/
def Obligations.StepKeepsSmallInvariants : Prop :=
  ∀ s t : State, step s = .next t →
    (ScheduleInv s → ScheduleInv t) ∧ (BindingInv s → BindingInv t) ∧ (NoticeInv s → NoticeInv t) ∧ (CapacityInv s → CapacityInv t) ∧
      (PortInv s → PortInv t) ∧ (Settled s → Settled t)
end

