-- ==== Sys2Proof/Laws/Bus.lean ====
section
/-! SUPPORT. What an attempt puts on the bus: every attempt that comes to its STOP ends with it, one acknowledged throughout
is its items in order, and one cut short ends with the release of both lines. -/

namespace Sys2Proof.Machine

@[simp] theorem length_byteBits (side : Side) (b : Byte) : (byteBits side b).length = 8 := rfl

/-- An attempt that is acknowledged throughout puts its items on the bus in order, and then STOP (R50, R51). -/
theorem carriedMarks_none (items : List BusItem) :
    carriedMarks none items = items.flatMap (BusItem.marks true) ++ [.stop] := by
  induction items with
  | nil => rfl
  | cons item rest ih => cases item <;> simp [carriedMarks, ih, BusItem.marks]

/-- An attempt that is acknowledged throughout ends OK (R50). -/
theorem attemptEnd_none (items : List BusItem) : ∀ written, attemptEnd written none items = .ok := by
  induction items with
  | nil => intro _; rfl
  | cons item rest ih => intro _; cases item <;> simp [attemptEnd, ih]

/-- Every attempt that comes to its STOP ends with it (R50, R51). -/
theorem carriedMarks_ends (items : List BusItem) : ∀ nack, ∃ marks, carriedMarks nack items = marks ++ [.stop] := by
  induction items with
  | nil => intro nack; cases nack <;> exact ⟨[], rfl⟩
  | cons item rest ih =>
    intro nack
    cases item with
    | opening c =>
      obtain ⟨m, h⟩ := ih nack
      exact ⟨c :: m, by cases nack <;> simp [carriedMarks, h]⟩
    | read b last =>
      obtain ⟨m, h⟩ := ih nack
      exact ⟨(BusItem.read b last).marks true ++ m, by cases nack <;> simp [carriedMarks, h]⟩
    | address b =>
      match nack with
      | none => obtain ⟨m, h⟩ := ih none; exact ⟨(BusItem.address b).marks true ++ m, by simp [carriedMarks, h]⟩
      | some 0 => exact ⟨_, rfl⟩
      | some (n + 1) =>
        obtain ⟨m, h⟩ := ih (some n); exact ⟨(BusItem.address b).marks true ++ m, by simp [carriedMarks, h]⟩
    | written b =>
      match nack with
      | none => obtain ⟨m, h⟩ := ih none; exact ⟨(BusItem.written b).marks true ++ m, by simp [carriedMarks, h]⟩
      | some 0 => exact ⟨_, rfl⟩
      | some (n + 1) =>
        obtain ⟨m, h⟩ := ih (some n); exact ⟨(BusItem.written b).marks true ++ m, by simp [carriedMarks, h]⟩

/-- With the idle check failed the part drives nothing (R49). -/
@[simp] theorem Course.marks_busStuck (gs : List Segment) (data : List Byte) : Course.marks gs data .busStuck = [] := rfl

/-- A cause that strikes in the mark after the first `count` leaves those marks, and then the release of both lines (R52,
R53, R60). -/
theorem Course.marks_cut_of_strikes {gs : List Segment} {data : List Byte} {cause : Cut} {nack : Option Nat} {count : Nat}
    {m : BusMark} (hm : (carriedMarks nack (attemptItems data gs))[count]? = some m) (hs : cause.strikes m = true) :
    Course.marks gs data (.cut cause nack count) =
      (carriedMarks nack (attemptItems data gs)).take count ++ [.release] := by
  simp [Course.marks, Course.taken, hm, hs]

/-- Where the cause cannot strike the attempt goes on as if it had not been (R53). -/
theorem Course.taken_cut_of_not_strikes {gs : List Segment} {data : List Byte} {cause : Cut} {nack : Option Nat}
    {count : Nat} (h : ∀ m, (carriedMarks nack (attemptItems data gs))[count]? = some m → cause.strikes m = false) :
    Course.taken gs data (.cut cause nack count) = .carried nack := by
  cases hm : (carriedMarks nack (attemptItems data gs))[count]? with
  | none => simp [Course.taken, hm]
  | some m => simp [Course.taken, hm, h m hm]

end Sys2Proof.Machine
end

