-- ==== Sys2Proof/Laws/Characters.lean ====
section
/-! SUPPORT. Characters of the Host Port: a byte is read back from the character that carries it, and the level of HTX. -/

namespace Sys2Proof.Machine

@[simp] theorem characterByte_characterOf (b : Byte) : characterByte (characterOf b) = b := by
  revert b; decide +kernel

@[simp] theorem characterOf_early (b : Byte) : (characterOf b).early = false := rfl

/-- The stop bit and the time of the start bit do not bear on the byte (R129). -/
theorem characterByte_of_data {c d : Character} (h : c.data = d.data) : characterByte c = characterByte d :=
  congrArg (fun v : Vector Bool 8 => (BitVec.ofBoolListLE v.toList).setWidth 8) h

@[simp] theorem length_characterLevels (b : Byte) : (characterLevels b).length = 10 := by simp [characterLevels]

/-- A frame takes 10 bit-times for each of its bytes (R129). -/
theorem length_flatMap_characterLevels (bytes : List Byte) :
    (bytes.flatMap characterLevels).length = 10 * bytes.length := by
  induction bytes with
  | nil => rfl
  | cons b rest ih => simp [ih]; omega

theorem State.htx_idle {s : State} (h : s.transmitter = none) (k : Nat) : s.htx k = stopLevel := by
  simp [State.htx, h]

/-- After its last stop bit the line is at the stop level (R129, R137). -/
theorem State.htx_of_le {s : State} {frame : OutFrame} (h : s.transmitter = some frame) {k : Nat}
    (hk : 10 * frame.bytes.length ≤ k) : s.htx k = stopLevel := by
  simp only [State.htx, h]
  rw [List.getD_eq_default]
  rw [length_flatMap_characterLevels]
  exact hk

end Sys2Proof.Machine
end

