-- ==== Sys2Proof/Laws/Table.lean ====
section
/-! SUPPORT. Reading and writing the entries of a table. -/

namespace Sys2Proof.Machine

variable {α β : Type} {n : Nat}

@[simp] theorem Table.get_set_self (t : Table α n) (i : Fin n) (a : α) : (t.set i a).get i = a := by
  simp [Table.get, Table.set]

theorem Table.get_set_ne (t : Table α n) {i j : Fin n} (a : α) (h : j ≠ i) : (t.set i a).get j = t.get j := by
  have hv : i.val ≠ j.val := fun e => h (Fin.ext e.symm)
  simp [Table.get, Table.set, hv]

theorem Table.get_set (t : Table α n) (i j : Fin n) (a : α) :
    (t.set i a).get j = if j = i then a else t.get j := by
  by_cases h : j = i
  · subst h; simp
  · simp [Table.get_set_ne t a h, h]

@[simp] theorem Table.get_map (f : α → α) (t : Table α n) (i : Fin n) : (t.map f).get i = f (t.get i) := by
  simp [Table.get, Table.map]

@[simp] theorem Table.get_ofFn (f : Fin n → α) (i : Fin n) : (Table.ofFn f).get i = f i := by
  simp [Table.get, Table.ofFn]

@[simp] theorem Table.get_replicate (a : α) (i : Fin n) : (Table.replicate n a).get i = a := by
  simp [Table.get, Table.replicate]

@[simp] theorem Table.toList_map (f : α → α) (t : Table α n) : (t.map f).toList = t.toList.map f := rfl

@[simp] theorem Table.toList_set (t : Table α n) (i : Fin n) (a : α) : (t.set i a).toList = t.toList.set i.val a := rfl

@[simp] theorem Table.toList_ofFn (f : Fin n → α) : (Table.ofFn f).toList = List.ofFn f := rfl

/-- Tables with the same entries are equal. -/
@[ext] theorem Table.ext_get {t u : Table α n} (h : ∀ i, t.get i = u.get i) : t = u := by
  obtain ⟨l, hl⟩ := t
  obtain ⟨m, hm⟩ := u
  have : l = m := by
    apply List.ext_getElem (hl.trans hm.symm)
    intro k h1 h2
    exact h ⟨k, hl ▸ h1⟩
  subst this
  rfl

/-- The entries in order. -/
theorem Table.toList_eq_ofFn (t : Table α n) : t.toList = List.ofFn t.get := by
  apply List.ext_getElem
  · simp [t.length_eq]
  · intro k h1 h2
    simp [Table.get]

/-- A value stands in the list of a table exactly when it is an entry. -/
theorem Table.mem_toList (t : Table α n) (a : α) : a ∈ t.toList ↔ ∃ i, t.get i = a := by
  rw [Table.toList_eq_ofFn, List.mem_ofFn]

@[simp] theorem Table.set_get_self (t : Table α n) (i : Fin n) : t.set i (t.get i) = t := by
  ext j
  rw [Table.get_set]
  split <;> simp_all

@[simp] theorem Table.set_set (t : Table α n) (i : Fin n) (a b : α) : (t.set i a).set i b = t.set i b := by
  ext j
  simp only [Table.get_set]
  split <;> rfl

/-- A writing of one entry as a writing of every entry. -/
theorem Table.map_eq_ofFn (f : α → α) (t : Table α n) : t.map f = Table.ofFn fun i => f (t.get i) := by
  ext i
  simp

end Sys2Proof.Machine
end

