-- ==== Sys2Proof/Laws/State.lean ====
section
/-! SUPPORT. What replacing one entry of the state changes: one lemma per field per replacement, and the entries read
back. -/

namespace Sys2Proof.Machine

variable (s : State)

/-! ### State.setTarget -/

@[simp] theorem State.setTarget_pending (t : Fin 32) (x : Target) : (s.setTarget t x).pending = s.pending := rfl
@[simp] theorem State.setTarget_op (t : Fin 32) (x : Target) : (s.setTarget t x).op = s.op := rfl
@[simp] theorem State.setTarget_heldInReset (t : Fin 32) (x : Target) : (s.setTarget t x).heldInReset = s.heldInReset := rfl
@[simp] theorem State.setTarget_supplyUp (t : Fin 32) (x : Target) : (s.setTarget t x).supplyUp = s.supplyUp := rfl
@[simp] theorem State.setTarget_resetCause (t : Fin 32) (x : Target) : (s.setTarget t x).resetCause = s.resetCause := rfl
@[simp] theorem State.setTarget_announcePending (t : Fin 32) (x : Target) : (s.setTarget t x).announcePending = s.announcePending := rfl
@[simp] theorem State.setTarget_stopTag (t : Fin 32) (x : Target) : (s.setTarget t x).stopTag = s.stopTag := rfl
@[simp] theorem State.setTarget_drainCancelled (t : Fin 32) (x : Target) : (s.setTarget t x).drainCancelled = s.drainCancelled := rfl
@[simp] theorem State.setTarget_evaluationOwed (t : Fin 32) (x : Target) : (s.setTarget t x).evaluationOwed = s.evaluationOwed := rfl
@[simp] theorem State.setTarget_interval (t : Fin 32) (x : Target) : (s.setTarget t x).interval = s.interval := rfl
@[simp] theorem State.setTarget_cycle (t : Fin 32) (x : Target) : (s.setTarget t x).cycle = s.cycle := rfl
@[simp] theorem State.setTarget_targets (t : Fin 32) (x : Target) : (s.setTarget t x).targets = s.targets.set t x := rfl
@[simp] theorem State.setTarget_polls (t : Fin 32) (x : Target) : (s.setTarget t x).polls = s.polls := rfl
@[simp] theorem State.setTarget_lanes (t : Fin 32) (x : Target) : (s.setTarget t x).lanes = s.lanes := rfl
@[simp] theorem State.setTarget_nextJob (t : Fin 32) (x : Target) : (s.setTarget t x).nextJob = s.nextJob := rfl
@[simp] theorem State.setTarget_lines (t : Fin 32) (x : Target) : (s.setTarget t x).lines = s.lines := rfl
@[simp] theorem State.setTarget_alertPins (t : Fin 32) (x : Target) : (s.setTarget t x).alertPins = s.alertPins := rfl
@[simp] theorem State.setTarget_pool (t : Fin 32) (x : Target) : (s.setTarget t x).pool = s.pool := rfl
@[simp] theorem State.setTarget_records (t : Fin 32) (x : Target) : (s.setTarget t x).records = s.records := rfl
@[simp] theorem State.setTarget_notices (t : Fin 32) (x : Target) : (s.setTarget t x).notices = s.notices := rfl
@[simp] theorem State.setTarget_lostNotices (t : Fin 32) (x : Target) : (s.setTarget t x).lostNotices = s.lostNotices := rfl
@[simp] theorem State.setTarget_rate (t : Fin 32) (x : Target) : (s.setTarget t x).rate = s.rate := rfl
@[simp] theorem State.setTarget_receiver (t : Fin 32) (x : Target) : (s.setTarget t x).receiver = s.receiver := rfl
@[simp] theorem State.setTarget_transmitter (t : Fin 32) (x : Target) : (s.setTarget t x).transmitter = s.transmitter := rfl
@[simp] theorem State.setTarget_credit (t : Fin 32) (x : Target) : (s.setTarget t x).credit = s.credit := rfl
@[simp] theorem State.setTarget_sequence (t : Fin 32) (x : Target) : (s.setTarget t x).sequence = s.sequence := rfl
@[simp] theorem State.setTarget_errors (t : Fin 32) (x : Target) : (s.setTarget t x).errors = s.errors := rfl
@[simp] theorem State.setTarget_inFlight (t : Fin 32) (x : Target) : (s.setTarget t x).inFlight = s.inFlight := rfl
@[simp] theorem State.setTarget_ready (t : Fin 32) (x : Target) : (s.setTarget t x).ready = s.ready := rfl
@[simp] theorem State.setTarget_script (t : Fin 32) (x : Target) : (s.setTarget t x).script = s.script := rfl
@[simp] theorem State.setTarget_draws (t : Fin 32) (x : Target) : (s.setTarget t x).draws = s.draws := rfl

@[simp] theorem State.setTarget_target_self (t : Fin 32) (x : Target) : (s.setTarget t x).target t = x := Table.get_set_self ..

theorem State.setTarget_target (t k : Fin 32) (x : Target) :
    (s.setTarget t x).target k = if k = t then x else s.target k := Table.get_set ..

theorem State.setTarget_target_ne (t k : Fin 32) (x : Target) (h : k ≠ t) : (s.setTarget t x).target k = s.target k :=
  Table.get_set_ne _ _ h

@[simp] theorem State.setTarget_poll (t : Fin 32) (x : Target) (k : Fin 48) : (s.setTarget t x).poll k = s.poll k := rfl

@[simp] theorem State.setTarget_lane (t : Fin 32) (x : Target) (k : Fin 4) : (s.setTarget t x).lane k = s.lane k := rfl

@[simp] theorem State.setTarget_line (t : Fin 32) (x : Target) (k : Fin 8) : (s.setTarget t x).line k = s.line k := rfl

@[simp] theorem State.setTarget_setTarget (t : Fin 32) (x y : Target) : (s.setTarget t x).setTarget t y = s.setTarget t y := by
  simp [State.setTarget]

@[simp] theorem State.setTarget_target_eq (t : Fin 32) : s.setTarget t (s.target t) = s := by
  simp [State.setTarget, State.target]

/-! ### State.setPoll -/

@[simp] theorem State.setPoll_pending (p : Fin 48) (x : Poll) : (s.setPoll p x).pending = s.pending := rfl
@[simp] theorem State.setPoll_op (p : Fin 48) (x : Poll) : (s.setPoll p x).op = s.op := rfl
@[simp] theorem State.setPoll_heldInReset (p : Fin 48) (x : Poll) : (s.setPoll p x).heldInReset = s.heldInReset := rfl
@[simp] theorem State.setPoll_supplyUp (p : Fin 48) (x : Poll) : (s.setPoll p x).supplyUp = s.supplyUp := rfl
@[simp] theorem State.setPoll_resetCause (p : Fin 48) (x : Poll) : (s.setPoll p x).resetCause = s.resetCause := rfl
@[simp] theorem State.setPoll_announcePending (p : Fin 48) (x : Poll) : (s.setPoll p x).announcePending = s.announcePending := rfl
@[simp] theorem State.setPoll_stopTag (p : Fin 48) (x : Poll) : (s.setPoll p x).stopTag = s.stopTag := rfl
@[simp] theorem State.setPoll_drainCancelled (p : Fin 48) (x : Poll) : (s.setPoll p x).drainCancelled = s.drainCancelled := rfl
@[simp] theorem State.setPoll_evaluationOwed (p : Fin 48) (x : Poll) : (s.setPoll p x).evaluationOwed = s.evaluationOwed := rfl
@[simp] theorem State.setPoll_interval (p : Fin 48) (x : Poll) : (s.setPoll p x).interval = s.interval := rfl
@[simp] theorem State.setPoll_cycle (p : Fin 48) (x : Poll) : (s.setPoll p x).cycle = s.cycle := rfl
@[simp] theorem State.setPoll_targets (p : Fin 48) (x : Poll) : (s.setPoll p x).targets = s.targets := rfl
@[simp] theorem State.setPoll_polls (p : Fin 48) (x : Poll) : (s.setPoll p x).polls = s.polls.set p x := rfl
@[simp] theorem State.setPoll_lanes (p : Fin 48) (x : Poll) : (s.setPoll p x).lanes = s.lanes := rfl
@[simp] theorem State.setPoll_nextJob (p : Fin 48) (x : Poll) : (s.setPoll p x).nextJob = s.nextJob := rfl
@[simp] theorem State.setPoll_lines (p : Fin 48) (x : Poll) : (s.setPoll p x).lines = s.lines := rfl
@[simp] theorem State.setPoll_alertPins (p : Fin 48) (x : Poll) : (s.setPoll p x).alertPins = s.alertPins := rfl
@[simp] theorem State.setPoll_pool (p : Fin 48) (x : Poll) : (s.setPoll p x).pool = s.pool := rfl
@[simp] theorem State.setPoll_records (p : Fin 48) (x : Poll) : (s.setPoll p x).records = s.records := rfl
@[simp] theorem State.setPoll_notices (p : Fin 48) (x : Poll) : (s.setPoll p x).notices = s.notices := rfl
@[simp] theorem State.setPoll_lostNotices (p : Fin 48) (x : Poll) : (s.setPoll p x).lostNotices = s.lostNotices := rfl
@[simp] theorem State.setPoll_rate (p : Fin 48) (x : Poll) : (s.setPoll p x).rate = s.rate := rfl
@[simp] theorem State.setPoll_receiver (p : Fin 48) (x : Poll) : (s.setPoll p x).receiver = s.receiver := rfl
@[simp] theorem State.setPoll_transmitter (p : Fin 48) (x : Poll) : (s.setPoll p x).transmitter = s.transmitter := rfl
@[simp] theorem State.setPoll_credit (p : Fin 48) (x : Poll) : (s.setPoll p x).credit = s.credit := rfl
@[simp] theorem State.setPoll_sequence (p : Fin 48) (x : Poll) : (s.setPoll p x).sequence = s.sequence := rfl
@[simp] theorem State.setPoll_errors (p : Fin 48) (x : Poll) : (s.setPoll p x).errors = s.errors := rfl
@[simp] theorem State.setPoll_inFlight (p : Fin 48) (x : Poll) : (s.setPoll p x).inFlight = s.inFlight := rfl
@[simp] theorem State.setPoll_ready (p : Fin 48) (x : Poll) : (s.setPoll p x).ready = s.ready := rfl
@[simp] theorem State.setPoll_script (p : Fin 48) (x : Poll) : (s.setPoll p x).script = s.script := rfl
@[simp] theorem State.setPoll_draws (p : Fin 48) (x : Poll) : (s.setPoll p x).draws = s.draws := rfl

@[simp] theorem State.setPoll_target (p : Fin 48) (x : Poll) (k : Fin 32) : (s.setPoll p x).target k = s.target k := rfl

@[simp] theorem State.setPoll_poll_self (p : Fin 48) (x : Poll) : (s.setPoll p x).poll p = x := Table.get_set_self ..

theorem State.setPoll_poll (p k : Fin 48) (x : Poll) :
    (s.setPoll p x).poll k = if k = p then x else s.poll k := Table.get_set ..

theorem State.setPoll_poll_ne (p k : Fin 48) (x : Poll) (h : k ≠ p) : (s.setPoll p x).poll k = s.poll k :=
  Table.get_set_ne _ _ h

@[simp] theorem State.setPoll_lane (p : Fin 48) (x : Poll) (k : Fin 4) : (s.setPoll p x).lane k = s.lane k := rfl

@[simp] theorem State.setPoll_line (p : Fin 48) (x : Poll) (k : Fin 8) : (s.setPoll p x).line k = s.line k := rfl

@[simp] theorem State.setPoll_setPoll (p : Fin 48) (x y : Poll) : (s.setPoll p x).setPoll p y = s.setPoll p y := by
  simp [State.setPoll]

@[simp] theorem State.setPoll_poll_eq (p : Fin 48) : s.setPoll p (s.poll p) = s := by
  simp [State.setPoll, State.poll]

/-! ### State.setLane -/

@[simp] theorem State.setLane_pending (i : Fin 4) (x : Lane) : (s.setLane i x).pending = s.pending := rfl
@[simp] theorem State.setLane_op (i : Fin 4) (x : Lane) : (s.setLane i x).op = s.op := rfl
@[simp] theorem State.setLane_heldInReset (i : Fin 4) (x : Lane) : (s.setLane i x).heldInReset = s.heldInReset := rfl
@[simp] theorem State.setLane_supplyUp (i : Fin 4) (x : Lane) : (s.setLane i x).supplyUp = s.supplyUp := rfl
@[simp] theorem State.setLane_resetCause (i : Fin 4) (x : Lane) : (s.setLane i x).resetCause = s.resetCause := rfl
@[simp] theorem State.setLane_announcePending (i : Fin 4) (x : Lane) : (s.setLane i x).announcePending = s.announcePending := rfl
@[simp] theorem State.setLane_stopTag (i : Fin 4) (x : Lane) : (s.setLane i x).stopTag = s.stopTag := rfl
@[simp] theorem State.setLane_drainCancelled (i : Fin 4) (x : Lane) : (s.setLane i x).drainCancelled = s.drainCancelled := rfl
@[simp] theorem State.setLane_evaluationOwed (i : Fin 4) (x : Lane) : (s.setLane i x).evaluationOwed = s.evaluationOwed := rfl
@[simp] theorem State.setLane_interval (i : Fin 4) (x : Lane) : (s.setLane i x).interval = s.interval := rfl
@[simp] theorem State.setLane_cycle (i : Fin 4) (x : Lane) : (s.setLane i x).cycle = s.cycle := rfl
@[simp] theorem State.setLane_targets (i : Fin 4) (x : Lane) : (s.setLane i x).targets = s.targets := rfl
@[simp] theorem State.setLane_polls (i : Fin 4) (x : Lane) : (s.setLane i x).polls = s.polls := rfl
@[simp] theorem State.setLane_lanes (i : Fin 4) (x : Lane) : (s.setLane i x).lanes = s.lanes.set i x := rfl
@[simp] theorem State.setLane_nextJob (i : Fin 4) (x : Lane) : (s.setLane i x).nextJob = s.nextJob := rfl
@[simp] theorem State.setLane_lines (i : Fin 4) (x : Lane) : (s.setLane i x).lines = s.lines := rfl
@[simp] theorem State.setLane_alertPins (i : Fin 4) (x : Lane) : (s.setLane i x).alertPins = s.alertPins := rfl
@[simp] theorem State.setLane_pool (i : Fin 4) (x : Lane) : (s.setLane i x).pool = s.pool := rfl
@[simp] theorem State.setLane_records (i : Fin 4) (x : Lane) : (s.setLane i x).records = s.records := rfl
@[simp] theorem State.setLane_notices (i : Fin 4) (x : Lane) : (s.setLane i x).notices = s.notices := rfl
@[simp] theorem State.setLane_lostNotices (i : Fin 4) (x : Lane) : (s.setLane i x).lostNotices = s.lostNotices := rfl
@[simp] theorem State.setLane_rate (i : Fin 4) (x : Lane) : (s.setLane i x).rate = s.rate := rfl
@[simp] theorem State.setLane_receiver (i : Fin 4) (x : Lane) : (s.setLane i x).receiver = s.receiver := rfl
@[simp] theorem State.setLane_transmitter (i : Fin 4) (x : Lane) : (s.setLane i x).transmitter = s.transmitter := rfl
@[simp] theorem State.setLane_credit (i : Fin 4) (x : Lane) : (s.setLane i x).credit = s.credit := rfl
@[simp] theorem State.setLane_sequence (i : Fin 4) (x : Lane) : (s.setLane i x).sequence = s.sequence := rfl
@[simp] theorem State.setLane_errors (i : Fin 4) (x : Lane) : (s.setLane i x).errors = s.errors := rfl
@[simp] theorem State.setLane_inFlight (i : Fin 4) (x : Lane) : (s.setLane i x).inFlight = s.inFlight := rfl
@[simp] theorem State.setLane_ready (i : Fin 4) (x : Lane) : (s.setLane i x).ready = s.ready := rfl
@[simp] theorem State.setLane_script (i : Fin 4) (x : Lane) : (s.setLane i x).script = s.script := rfl
@[simp] theorem State.setLane_draws (i : Fin 4) (x : Lane) : (s.setLane i x).draws = s.draws := rfl

@[simp] theorem State.setLane_target (i : Fin 4) (x : Lane) (k : Fin 32) : (s.setLane i x).target k = s.target k := rfl

@[simp] theorem State.setLane_poll (i : Fin 4) (x : Lane) (k : Fin 48) : (s.setLane i x).poll k = s.poll k := rfl

@[simp] theorem State.setLane_lane_self (i : Fin 4) (x : Lane) : (s.setLane i x).lane i = x := Table.get_set_self ..

theorem State.setLane_lane (i k : Fin 4) (x : Lane) :
    (s.setLane i x).lane k = if k = i then x else s.lane k := Table.get_set ..

theorem State.setLane_lane_ne (i k : Fin 4) (x : Lane) (h : k ≠ i) : (s.setLane i x).lane k = s.lane k :=
  Table.get_set_ne _ _ h

@[simp] theorem State.setLane_line (i : Fin 4) (x : Lane) (k : Fin 8) : (s.setLane i x).line k = s.line k := rfl

@[simp] theorem State.setLane_setLane (i : Fin 4) (x y : Lane) : (s.setLane i x).setLane i y = s.setLane i y := by
  simp [State.setLane]

@[simp] theorem State.setLane_lane_eq (i : Fin 4) : s.setLane i (s.lane i) = s := by
  simp [State.setLane, State.lane]

/-! ### State.setLine -/

@[simp] theorem State.setLine_pending (l : Fin 8) (x : Line) : (s.setLine l x).pending = s.pending := rfl
@[simp] theorem State.setLine_op (l : Fin 8) (x : Line) : (s.setLine l x).op = s.op := rfl
@[simp] theorem State.setLine_heldInReset (l : Fin 8) (x : Line) : (s.setLine l x).heldInReset = s.heldInReset := rfl
@[simp] theorem State.setLine_supplyUp (l : Fin 8) (x : Line) : (s.setLine l x).supplyUp = s.supplyUp := rfl
@[simp] theorem State.setLine_resetCause (l : Fin 8) (x : Line) : (s.setLine l x).resetCause = s.resetCause := rfl
@[simp] theorem State.setLine_announcePending (l : Fin 8) (x : Line) : (s.setLine l x).announcePending = s.announcePending := rfl
@[simp] theorem State.setLine_stopTag (l : Fin 8) (x : Line) : (s.setLine l x).stopTag = s.stopTag := rfl
@[simp] theorem State.setLine_drainCancelled (l : Fin 8) (x : Line) : (s.setLine l x).drainCancelled = s.drainCancelled := rfl
@[simp] theorem State.setLine_evaluationOwed (l : Fin 8) (x : Line) : (s.setLine l x).evaluationOwed = s.evaluationOwed := rfl
@[simp] theorem State.setLine_interval (l : Fin 8) (x : Line) : (s.setLine l x).interval = s.interval := rfl
@[simp] theorem State.setLine_cycle (l : Fin 8) (x : Line) : (s.setLine l x).cycle = s.cycle := rfl
@[simp] theorem State.setLine_targets (l : Fin 8) (x : Line) : (s.setLine l x).targets = s.targets := rfl
@[simp] theorem State.setLine_polls (l : Fin 8) (x : Line) : (s.setLine l x).polls = s.polls := rfl
@[simp] theorem State.setLine_lanes (l : Fin 8) (x : Line) : (s.setLine l x).lanes = s.lanes := rfl
@[simp] theorem State.setLine_nextJob (l : Fin 8) (x : Line) : (s.setLine l x).nextJob = s.nextJob := rfl
@[simp] theorem State.setLine_lines (l : Fin 8) (x : Line) : (s.setLine l x).lines = s.lines.set l x := rfl
@[simp] theorem State.setLine_alertPins (l : Fin 8) (x : Line) : (s.setLine l x).alertPins = s.alertPins := rfl
@[simp] theorem State.setLine_pool (l : Fin 8) (x : Line) : (s.setLine l x).pool = s.pool := rfl
@[simp] theorem State.setLine_records (l : Fin 8) (x : Line) : (s.setLine l x).records = s.records := rfl
@[simp] theorem State.setLine_notices (l : Fin 8) (x : Line) : (s.setLine l x).notices = s.notices := rfl
@[simp] theorem State.setLine_lostNotices (l : Fin 8) (x : Line) : (s.setLine l x).lostNotices = s.lostNotices := rfl
@[simp] theorem State.setLine_rate (l : Fin 8) (x : Line) : (s.setLine l x).rate = s.rate := rfl
@[simp] theorem State.setLine_receiver (l : Fin 8) (x : Line) : (s.setLine l x).receiver = s.receiver := rfl
@[simp] theorem State.setLine_transmitter (l : Fin 8) (x : Line) : (s.setLine l x).transmitter = s.transmitter := rfl
@[simp] theorem State.setLine_credit (l : Fin 8) (x : Line) : (s.setLine l x).credit = s.credit := rfl
@[simp] theorem State.setLine_sequence (l : Fin 8) (x : Line) : (s.setLine l x).sequence = s.sequence := rfl
@[simp] theorem State.setLine_errors (l : Fin 8) (x : Line) : (s.setLine l x).errors = s.errors := rfl
@[simp] theorem State.setLine_inFlight (l : Fin 8) (x : Line) : (s.setLine l x).inFlight = s.inFlight := rfl
@[simp] theorem State.setLine_ready (l : Fin 8) (x : Line) : (s.setLine l x).ready = s.ready := rfl
@[simp] theorem State.setLine_script (l : Fin 8) (x : Line) : (s.setLine l x).script = s.script := rfl
@[simp] theorem State.setLine_draws (l : Fin 8) (x : Line) : (s.setLine l x).draws = s.draws := rfl

@[simp] theorem State.setLine_target (l : Fin 8) (x : Line) (k : Fin 32) : (s.setLine l x).target k = s.target k := rfl

@[simp] theorem State.setLine_poll (l : Fin 8) (x : Line) (k : Fin 48) : (s.setLine l x).poll k = s.poll k := rfl

@[simp] theorem State.setLine_lane (l : Fin 8) (x : Line) (k : Fin 4) : (s.setLine l x).lane k = s.lane k := rfl

@[simp] theorem State.setLine_line_self (l : Fin 8) (x : Line) : (s.setLine l x).line l = x := Table.get_set_self ..

theorem State.setLine_line (l k : Fin 8) (x : Line) :
    (s.setLine l x).line k = if k = l then x else s.line k := Table.get_set ..

theorem State.setLine_line_ne (l k : Fin 8) (x : Line) (h : k ≠ l) : (s.setLine l x).line k = s.line k :=
  Table.get_set_ne _ _ h

@[simp] theorem State.setLine_setLine (l : Fin 8) (x y : Line) : (s.setLine l x).setLine l y = s.setLine l y := by
  simp [State.setLine]

@[simp] theorem State.setLine_line_eq (l : Fin 8) : s.setLine l (s.line l) = s := by
  simp [State.setLine, State.line]

end Sys2Proof.Machine
end

