-- ==== Sys2Proof/Laws/Ops.lean ====
section
/-! SUPPORT. What each shared operation over the whole part can do, once: which fields it may change, and its effect on
those. A `_frame` lemma writes the result as the state before with only the fields the operation owns replaced. -/

namespace Sys2Proof.Machine

/-! ### Counters -/

theorem le_countUp (limit n : Nat) : n ≤ countUp limit n := by unfold countUp; split <;> omega

theorem countUp_le {limit n : Nat} (h : n ≤ limit) : countUp limit n ≤ limit := by unfold countUp; split <;> omega

theorem countUp_of_lt {limit n : Nat} (h : n < limit) : countUp limit n = n + 1 := if_pos h

theorem countUp_of_ge {limit n : Nat} (h : limit ≤ n) : countUp limit n = n := if_neg (Nat.not_lt.2 h)

theorem sum16_le (a b : Nat) : sum16 a b ≤ 65535 := Nat.min_le_right _ _

/-! ### Free choices -/

/-- Whatever the choice, the result is a reordering. -/
theorem reorder_perm {α : Type} (picks : List Nat) (l : List α) : (reorder picks l).Perm l := by
  induction picks generalizing l with
  | nil => unfold reorder; split <;> simp
  | cons k ks ih =>
    unfold reorder
    split
    · exact .refl _
    · exact .refl _
    · rename_i a b rest
      have hk : k % (rest.length + 2) < (a :: b :: rest).length := by
        simp only [List.length_cons]; exact Nat.mod_lt _ (by omega)
      have e : ((a :: b :: rest).drop (k % (rest.length + 2))).take 1 = [(a :: b :: rest)[k % (rest.length + 2)]] := by
        rw [List.drop_eq_getElem_cons hk, List.take_succ_cons, List.take_zero]
      simp only [e, List.singleton_append]
      exact ((ih _).cons _).trans (List.getElem_cons_eraseIdx_perm hk)

theorem mem_reorder {α : Type} (picks : List Nat) (l : List α) (a : α) : a ∈ reorder picks l ↔ a ∈ l :=
  (reorder_perm picks l).mem_iff

theorem reorder_nodup {α : Type} (picks : List Nat) (l : List α) : (reorder picks l).Nodup ↔ l.Nodup :=
  (reorder_perm picks l).nodup_iff

/-- Drawing a choice changes the model's own fields only. -/
theorem afterChoice_frame (s : State) :
    s.afterChoice = { s with script := s.afterChoice.script, draws := s.afterChoice.draws } := by
  unfold State.afterChoice; split <;> rfl

/-! ### Waking lanes -/

@[simp] theorem Lane.wake_wake (l : Lane) : l.wake.wake = l.wake := by
  unfold Lane.wake; split <;> simp_all

/-- Waking changes `lookOwed` only. -/
theorem Lane.wake_frame (l : Lane) : l.wake = { l with lookOwed := l.wake.lookOwed } := by
  unfold Lane.wake; split <;> rfl

@[simp] theorem Lane.wake_state (l : Lane) : l.wake.state = l.state := by rw [Lane.wake_frame]
@[simp] theorem Lane.wake_speed (l : Lane) : l.wake.speed = l.speed := by rw [Lane.wake_frame]
@[simp] theorem Lane.wake_stretchLimit (l : Lane) : l.wake.stretchLimit = l.stretchLimit := by rw [Lane.wake_frame]
@[simp] theorem Lane.wake_pollShare (l : Lane) : l.wake.pollShare = l.pollShare := by rw [Lane.wake_frame]
@[simp] theorem Lane.wake_capacity (l : Lane) : l.wake.capacity = l.capacity := by rw [Lane.wake_frame]
@[simp] theorem Lane.wake_budget (l : Lane) : l.wake.budget = l.budget := by rw [Lane.wake_frame]
@[simp] theorem Lane.wake_remaining (l : Lane) : l.wake.remaining = l.remaining := by rw [Lane.wake_frame]
@[simp] theorem Lane.wake_closed (l : Lane) : l.wake.closed = l.closed := by rw [Lane.wake_frame]
@[simp] theorem Lane.wake_probeTier (l : Lane) : l.wake.probeTier = l.probeTier := by rw [Lane.wake_frame]
@[simp] theorem Lane.wake_alertTier (l : Lane) : l.wake.alertTier = l.alertTier := by rw [Lane.wake_frame]
@[simp] theorem Lane.wake_workList (l : Lane) : l.wake.workList = l.workList := by rw [Lane.wake_frame]
@[simp] theorem Lane.wake_jobs (l : Lane) : l.wake.jobs = l.jobs := by rw [Lane.wake_frame]
@[simp] theorem Lane.wake_txn (l : Lane) : l.wake.txn = l.txn := by rw [Lane.wake_frame]
@[simp] theorem Lane.wake_reservation (l : Lane) : l.wake.reservation = l.reservation := by rw [Lane.wake_frame]
@[simp] theorem Lane.wake_lastFault (l : Lane) : l.wake.lastFault = l.lastFault := by rw [Lane.wake_frame]
@[simp] theorem Lane.wake_waitingResets (l : Lane) : l.wake.waitingResets = l.waitingResets := by
  rw [Lane.wake_frame]
@[simp] theorem Lane.wake_fromFault (l : Lane) : l.wake.fromFault = l.fromFault := by rw [Lane.wake_frame]
@[simp] theorem Lane.wake_counts (l : Lane) : l.wake.counts = l.counts := by rw [Lane.wake_frame]

theorem wakeLane_frame (i : Fin 4) (s : State) : wakeLane i s = { s with lanes := (wakeLane i s).lanes } := by
  unfold wakeLane; split <;> rfl

theorem wakeLane_lane (i k : Fin 4) (s : State) :
    (wakeLane i s).lane k = if s.op = .running ∧ k = i then (s.lane k).wake else s.lane k := by
  unfold wakeLane
  by_cases h : s.op = .running
  · by_cases e : k = i
    · subst e; simp [h]
    · simp [h, e, State.setLane_lane]
  · simp [h]

theorem wakeAll_frame (s : State) : wakeAll s = { s with lanes := (wakeAll s).lanes } := by
  unfold wakeAll; split <;> rfl

theorem wakeAll_lane (k : Fin 4) (s : State) :
    (wakeAll s).lane k = if s.op = .running then (s.lane k).wake else s.lane k := by
  unfold wakeAll; split <;> simp [State.lane]

/-! ### Pool blocks, record slots and records -/

theorem claimBlock_frame (s : State) : claimBlock s = { s with pool := (claimBlock s).pool } := rfl

theorem releaseBlock_frame (s : State) :
    releaseBlock s = { s with pool := ⟨s.pool.free + 1, s.pool.lowWater⟩, lanes := (releaseBlock s).lanes } := by
  unfold releaseBlock; rw [wakeAll_frame]

theorem releaseBlock_lane (k : Fin 4) (s : State) :
    (releaseBlock s).lane k = if s.op = .running then (s.lane k).wake else s.lane k := wakeAll_lane k _

theorem releaseIf_frame (b : Bool) (s : State) :
    releaseIf b s = { s with pool := ⟨s.pool.free + (if b then 1 else 0), s.pool.lowWater⟩
                             lanes := (releaseIf b s).lanes } := by
  cases b
  · rfl
  · exact releaseBlock_frame s

theorem releaseIf_lane (b : Bool) (k : Fin 4) (s : State) :
    (releaseIf b s).lane k = if b = true ∧ s.op = .running then (s.lane k).wake else s.lane k := by
  cases b
  · simp [releaseIf]
  · simp [releaseIf, releaseBlock_lane]

theorem releaseReservation_frame (r : Reservation) (s : State) :
    releaseReservation r s =
      { s with pool := ⟨s.pool.free + (if r = .slotAndBlock then 1 else 0), s.pool.lowWater⟩
               lanes := (releaseReservation r s).lanes } := by
  cases r
  · rfl
  · exact wakeAll_frame s
  · exact releaseBlock_frame s

theorem releaseReservation_lane (r : Reservation) (k : Fin 4) (s : State) :
    (releaseReservation r s).lane k = if r ≠ .none ∧ s.op = .running then (s.lane k).wake else s.lane k := by
  cases r
  · simp [releaseReservation]
  · simp [releaseReservation, wakeAll_lane]
  · simp [releaseReservation, releaseBlock_lane]

@[simp] theorem addRecord_records (r : Record) (s : State) : (addRecord r s).records = s.records ++ [r] := rfl

/-! ### Notices (R125) -/

theorem post_frame (b : NoticeBody) (s : State) :
    post b s = { s with notices := (post b s).notices, lostNotices := (post b s).lostNotices } := by
  unfold post; split
  · rfl
  · split <;> rfl

theorem post_merged {b : NoticeBody} {s : State} (h : s.notices.any (fun n => n.body.key = b.key) = true) :
    post b s = { s with notices := s.notices.map (mergeNotice b) } := if_pos h

theorem post_new {b : NoticeBody} {s : State} (h : s.notices.any (fun n => n.body.key = b.key) = false)
    (hl : s.notices.length < 16) : post b s = { s with notices := s.notices ++ [⟨b, 1⟩] } := by
  unfold post
  rw [if_neg (by simp [h]), if_pos (by simpa [Config.noticePlaces] using hl)]

theorem post_lost {b : NoticeBody} {s : State} (h : s.notices.any (fun n => n.body.key = b.key) = false)
    (hl : 16 ≤ s.notices.length) : post b s = { s with lostNotices := count8 s.lostNotices } := by
  unfold post
  rw [if_neg (by simp [h]), if_neg (by simpa [Config.noticePlaces] using hl)]

@[simp] theorem NoticeBody.merge_key (a b : NoticeBody) (h : a.key = b.key) : (a.merge b).key = b.key := by
  cases a <;> cases b <;> simp_all [NoticeBody.merge, NoticeBody.key]

/-- Merging changes no key. -/
@[simp] theorem mergeNotice_key (b : NoticeBody) (n : Notice) : (mergeNotice b n).body.key = n.body.key := by
  unfold mergeNotice; split
  · rename_i h
    simp [NoticeBody.merge_key _ _ h, h]
  · rfl

/-! ### Replies and the arbiter (R135, R136) -/

theorem answer_eq_replied (tag kind : Byte) (fields : List Byte) (s : State) :
    answer tag kind fields s = replied tag (replyKind kind) (0x00 :: fields) s := rfl

theorem deny_eq_replied (tag kind : Byte) (status : ReplyStatus) (s : State) :
    deny tag kind status s = replied tag (replyKind kind) [status.code] s := rfl

theorem arbitrate_busy {s : State} {f : OutFrame} (h : s.transmitter = some f) : arbitrate s = s := by
  simp [arbitrate, h]

theorem arbitrate_announce {s : State} (h : s.transmitter = none) (ha : s.announcePending = true) :
    arbitrate s = takeAnnounce s := by
  simp [arbitrate, h, ha]

theorem arbitrate_reply {s : State} {r : Reply} {rest : List Reply} (h : s.transmitter = none)
    (ha : s.announcePending = false) (hr : s.ready = r :: rest) : arbitrate s = takeReply r rest s := by
  simp [arbitrate, h, ha, hr]

theorem arbitrate_noCredit {s : State} (h : s.transmitter = none) (ha : s.announcePending = false)
    (hr : s.ready = []) (hc : s.credit = 0) : arbitrate s = s := by
  simp [arbitrate, h, ha, hr, hc]

theorem arbitrate_notice {s : State} {n : Notice} {rest : List Notice} (h : s.transmitter = none)
    (ha : s.announcePending = false) (hr : s.ready = []) (hc : 0 < s.credit) (hn : s.notices = n :: rest) :
    arbitrate s = takeNotice n rest s := by
  simp [arbitrate, h, ha, hr, hn, Nat.pos_iff_ne_zero.1 hc]

theorem arbitrate_record {s : State} {r : Record} {rest : List Record} (h : s.transmitter = none)
    (ha : s.announcePending = false) (hr : s.ready = []) (hc : 0 < s.credit) (hn : s.notices = [])
    (hq : s.records = r :: rest) : arbitrate s = takeRecord r rest s := by
  simp [arbitrate, h, ha, hr, hn, hq, Nat.pos_iff_ne_zero.1 hc]

theorem arbitrate_nothing {s : State} (h : s.transmitter = none) (ha : s.announcePending = false) (hr : s.ready = [])
    (hn : s.notices = []) (hq : s.records = []) : arbitrate s = s := by
  unfold arbitrate; simp [h, ha, hr, hn, hq]

/-- Everything the arbiter can do: nothing, or the taking of one of the four kinds of item, each with what made it
possible. -/
theorem arbitrate_cases (s : State) :
    arbitrate s = s ∨
    (s.transmitter = none ∧ s.announcePending = true ∧ arbitrate s = takeAnnounce s) ∨
    (∃ r rest, s.transmitter = none ∧ s.announcePending = false ∧ s.ready = r :: rest ∧
      arbitrate s = takeReply r rest s) ∨
    (∃ n rest, s.transmitter = none ∧ s.announcePending = false ∧ s.ready = [] ∧ 0 < s.credit ∧
      s.notices = n :: rest ∧ arbitrate s = takeNotice n rest s) ∨
    (∃ r rest, s.transmitter = none ∧ s.announcePending = false ∧ s.ready = [] ∧ 0 < s.credit ∧ s.notices = [] ∧
      s.records = r :: rest ∧ arbitrate s = takeRecord r rest s) := by
  rcases ht : s.transmitter with _ | f
  · rcases ha : s.announcePending with _ | _
    · rcases hr : s.ready with _ | ⟨r, rest⟩
      · rcases Nat.eq_zero_or_pos s.credit with hc | hc
        · exact .inl (arbitrate_noCredit ht ha hr hc)
        · rcases hn : s.notices with _ | ⟨n, rest⟩
          · rcases hq : s.records with _ | ⟨r, rest⟩
            · exact .inl (arbitrate_nothing ht ha hr hn hq)
            · exact .inr (.inr (.inr (.inr ⟨r, rest, by simp_all, rfl, by simp_all, hc, by simp_all, by simp_all,
                arbitrate_record ht ha hr hc hn hq⟩)))
          · exact .inr (.inr (.inr (.inl ⟨n, rest, by simp_all, rfl, by simp_all, hc, by simp_all,
              arbitrate_notice ht ha hr hc hn⟩)))
      · exact .inr (.inr (.inl ⟨r, rest, by simp_all, rfl, by simp_all, arbitrate_reply ht ha hr⟩))
    · exact .inr (.inl ⟨by simp_all, rfl, arbitrate_announce ht ha⟩)
  · exact .inl (arbitrate_busy ht)

theorem takeRecord_frame (r : Record) (rest : List Record) (s : State) :
    takeRecord r rest s =
      { s with records := rest
               polls := s.polls.map Poll.headTaken
               credit := s.credit - 1
               sequence := s.sequence + 1
               transmitter := some ⟨.result, frameBytes 0xC0 0 (resultBody s.sequence r)⟩
               pool := ⟨s.pool.free + (if r.data.isSome then 1 else 0), s.pool.lowWater⟩
               lanes := (takeRecord r rest s).lanes } := by
  unfold takeRecord
  rw [releaseIf_frame, wakeAll_frame]

theorem takeRecord_lane (r : Record) (rest : List Record) (k : Fin 4) (s : State) :
    (takeRecord r rest s).lane k = if s.op = .running then (s.lane k).wake else s.lane k := by
  unfold takeRecord
  rw [releaseIf_lane, wakeAll_lane]
  rw [wakeAll_frame]
  by_cases h : s.op = .running <;> simp [h, State.lane]

/-- The arbiter leaves these fields alone. -/
theorem arbitrate_frame (s : State) :
    arbitrate s =
      { s with announcePending := (arbitrate s).announcePending
               transmitter := (arbitrate s).transmitter
               ready := (arbitrate s).ready
               inFlight := (arbitrate s).inFlight
               notices := (arbitrate s).notices
               lostNotices := (arbitrate s).lostNotices
               records := (arbitrate s).records
               polls := (arbitrate s).polls
               lanes := (arbitrate s).lanes
               pool := (arbitrate s).pool
               credit := (arbitrate s).credit
               sequence := (arbitrate s).sequence } := by
  rcases arbitrate_cases s with h | ⟨_, _, h⟩ | ⟨_, _, _, _, _, h⟩ | ⟨_, _, _, _, _, _, _, h⟩ | ⟨_, _, _, _, _, _, _, _, h⟩
  · rw [h]
  · rw [h]; rfl
  · rw [h]; rfl
  · rw [h]; rfl
  · rw [h, takeRecord_frame]

/-- After the arbiter has acted it has nothing to take. -/
theorem arbitrate_settled (s : State) : Settled (arbitrate s) := by
  unfold Settled
  rcases arbitrate_cases s with h | ⟨_, _, h⟩ | ⟨_, _, _, _, _, h⟩ | ⟨_, _, _, _, _, _, _, h⟩ | ⟨_, _, _, _, _, _, _, _, h⟩
  · rw [h, h]
  · rw [h]; exact arbitrate_busy rfl
  · rw [h]; exact arbitrate_busy rfl
  · rw [h]; exact arbitrate_busy rfl
  · rw [h]
    exact arbitrate_busy (f := ⟨.result, frameBytes 0xC0 0 (resultBody s.sequence _)⟩) (by rw [takeRecord_frame])

/-! ### The end of DRAINING (R156) -/

theorem finishDrain_frame (others : List Reply) (s : State) :
    finishDrain others s =
      { s with op := (finishDrain others s).op
               stopTag := (finishDrain others s).stopTag
               ready := (finishDrain others s).ready } := by
  unfold finishDrain; split <;> rfl

theorem finishDrain_going {others : List Reply} {s : State} (h : drainDone s = false) :
    finishDrain others s = { s with ready := s.ready ++ others } := if_neg (by simp [h])

theorem inAdmissionOrder_perm (inFlight : List Byte) (others late : List Reply) :
    (inAdmissionOrder inFlight others late).Perm (others ++ late) := by
  unfold inAdmissionOrder
  split
  · simp
  · rename_i r rest
    dsimp only
    conv_rhs =>
      rw [← List.takeWhile_append_dropWhile (p := fun x : Reply => decide (inFlight.idxOf x.tag < inFlight.idxOf r.tag))
        (l := others)]
    rw [List.append_assoc, List.append_assoc]
    exact List.Perm.append_left _ List.perm_append_comm

end Sys2Proof.Machine
end

