-- ==== Sys2Proof/Laws/Frames.lean ====
section
/-! SUPPORT. Which fields of the state each operation of the blocks may change: the result is the state before with only
those fields replaced. -/

namespace Sys2Proof.Machine

/-- A property that every step of a fold keeps holds at its end. -/
theorem foldl_keeps {α : Type} {P : State → Prop} {f : State → α → State} (hf : ∀ s a, P s → P (f s a)) :
    ∀ (l : List α) (s : State), P s → P (l.foldl f s)
  | [], _, h => h
  | a :: l, s, h => foldl_keeps hf l (f s a) (hf s a h)

/-! ### Target health -/

theorem changeTarget_frame (t : Fin 32) (x : Target) (s : State) :
    changeTarget t x s =
      { s with targets := s.targets.set t x
               notices := (changeTarget t x s).notices
               lostNotices := (changeTarget t x s).lostNotices } := by
  unfold changeTarget
  split
  · rfl
  · rw [post_frame]; rfl

/-- The entry holds the value given; the others are unchanged. -/
theorem changeTarget_target (t u : Fin 32) (x : Target) (s : State) :
    (changeTarget t x s).target u = if u = t then x else s.target u := by
  rw [changeTarget_frame]
  exact Table.get_set ..

theorem wakeIfRevived_frame (a b : Target) (s : State) :
    wakeIfRevived a b s = { s with lanes := (wakeIfRevived a b s).lanes } := by
  unfold wakeIfRevived
  split
  · exact wakeLane_frame ..
  · rfl

theorem targetOutcome_frame (t : Fin 32) (p : Bool) (st : RecordStatus) (s : State) :
    targetOutcome t p st s =
      { s with targets := s.targets.set t ((s.target t).afterOutcome p st)
               notices := (targetOutcome t p st s).notices
               lostNotices := (targetOutcome t p st s).lostNotices
               lanes := (targetOutcome t p st s).lanes } := by
  unfold targetOutcome
  rw [wakeIfRevived_frame, changeTarget_frame]

theorem removeProbe_frame (t : Fin 32) (s : State) : removeProbe t s = { s with lanes := (removeProbe t s).lanes } := by
  unfold removeProbe
  dsimp only
  split
  · rw [wakeLane_frame]; rfl
  · rfl

theorem queueProbe_frame (t : Fin 32) (s : State) :
    queueProbe t s = { s with targets := (queueProbe t s).targets, lanes := (queueProbe t s).lanes } := by
  unfold queueProbe
  dsimp only
  rw [wakeLane_frame]
  rfl

/-! ### Reports -/

theorem newPollRecord_frame (p : Fin 48) (x : Transaction) (f : Final) (s : State) :
    newPollRecord p x f s =
      { s with polls := (newPollRecord p x f s).polls
               records := s.records ++ [⟨.poll p x.generation 0, x.target, s.cycle, f.status, f.recordData⟩]
               pool := (newPollRecord p x f s).pool
               lanes := (newPollRecord p x f s).lanes } := by
  unfold newPollRecord
  dsimp only
  rw [releaseIf_frame]
  rfl

theorem mergePollRecord_frame (p : Fin 48) (k : Nat) (r : Record) (f : Final) (s : State) :
    mergePollRecord p k r f s =
      { s with polls := (mergePollRecord p k r f s).polls
               records := s.records.set k { r with source := r.source.supersede
                                                   cycle := s.cycle
                                                   status := f.status
                                                   data := f.recordData }
               pool := (mergePollRecord p k r f s).pool
               lanes := (mergePollRecord p k r f s).lanes } := by
  unfold mergePollRecord
  dsimp only
  rw [releaseIf_frame, releaseIf_frame, wakeAll_frame]
  rfl

theorem reportPoll_frame (p : Fin 48) (x : Transaction) (f : Final) (s : State) :
    reportPoll p x f s =
      { s with polls := (reportPoll p x f s).polls
               records := (reportPoll p x f s).records
               pool := (reportPoll p x f s).pool
               lanes := (reportPoll p x f s).lanes } := by
  unfold reportPoll
  dsimp only
  split
  · rw [mergePollRecord_frame]; rfl
  · rw [newPollRecord_frame]; rfl

theorem pollCompletion_frame (p : Fin 48) (x : Transaction) (f : Final) (s : State) :
    pollCompletion p x f s =
      { s with polls := (pollCompletion p x f s).polls
               records := (pollCompletion p x f s).records
               pool := (pollCompletion p x f s).pool
               lanes := (pollCompletion p x f s).lanes } := by
  unfold pollCompletion
  dsimp only
  split
  · rw [reportPoll_frame]; rfl
  · rw [releaseBlock_frame]; rfl

theorem endQueuedJob_frame (j : Job) (st : RecordStatus) (s : State) :
    endQueuedJob j st s =
      { s with records := s.records ++ [jobRecord s.cycle j (Final.plain st)]
               pool := ⟨s.pool.free + (if j.data.isSome then 1 else 0), s.pool.lowWater⟩
               lanes := (endQueuedJob j st s).lanes } := by
  unfold endQueuedJob
  rw [releaseIf_frame]
  rfl

theorem endRunningJob_frame (j : Job) (f : Final) (s : State) :
    endRunningJob j f s =
      { s with records := s.records ++ [jobRecord s.cycle j f]
               pool := (endRunningJob j f s).pool
               lanes := (endRunningJob j f s).lanes } := by
  unfold endRunningJob
  rw [releaseIf_frame, releaseIf_frame]
  rfl

theorem trigger_frame (l : Fin 8) (s : State) :
    trigger l s = { s with lines := s.lines.set l (s.line l).triggered, lanes := (trigger l s).lanes } := by
  unfold trigger
  dsimp only
  rw [wakeLane_frame]
  rfl

theorem moveLine_frame (l : Fin 8) (s : State) :
    moveLine l s = { s with lines := (moveLine l s).lines, lanes := (moveLine l s).lanes } := by
  unfold moveLine
  split
  · rw [trigger_frame]
  · rfl

theorem alertSnapshot_frame (l : Fin 8) (x : Transaction) (f : Final) (s : State) :
    alertSnapshot l x f s = { s with polls := (alertSnapshot l x f s).polls } := by
  unfold alertSnapshot
  split <;> rfl

theorem endAlertRead_frame (l : Fin 8) (x : Transaction) (f : Final) (s : State) :
    endAlertRead l x f s =
      { s with records := s.records ++ [alertRecord s l x.generation x.target f]
               lines := (endAlertRead l x f s).lines
               polls := (endAlertRead l x f s).polls
               pool := (endAlertRead l x f s).pool
               lanes := (endAlertRead l x f s).lanes } := by
  unfold endAlertRead
  rw [releaseIf_frame, moveLine_frame, alertSnapshot_frame]
  rfl

theorem settleAlert_frame (l : Fin 8) (s : State) :
    settleAlert l s =
      { s with records := s.records ++ [alertRecord s l (s.poll (s.line l).boundPoll).generation
                                          (s.poll (s.line l).boundPoll).defn.target (Final.plain .quarantined)]
               lines := (settleAlert l s).lines
               lanes := (settleAlert l s).lanes } := by
  unfold settleAlert
  dsimp only
  rw [moveLine_frame]
  rfl

theorem reportOutcome_frame (x : Transaction) (h : Reservation) (f : Final) (s : State) :
    reportOutcome x h f s =
      { s with records := (reportOutcome x h f s).records
               lines := (reportOutcome x h f s).lines
               polls := (reportOutcome x h f s).polls
               pool := (reportOutcome x h f s).pool
               lanes := (reportOutcome x h f s).lanes } := by
  unfold reportOutcome
  split
  · split
    · rw [releaseReservation_frame]
    · rw [pollCompletion_frame]
  · rw [endAlertRead_frame]
  · rw [endRunningJob_frame]
  · rfl

/-- The end of a transaction: what no block of R55 owns is unchanged. -/
theorem endTransaction_frame (i : Fin 4) (f : Final) (s : State) :
    endTransaction i f s =
      { s with targets := (endTransaction i f s).targets
               notices := (endTransaction i f s).notices
               lostNotices := (endTransaction i f s).lostNotices
               records := (endTransaction i f s).records
               lines := (endTransaction i f s).lines
               polls := (endTransaction i f s).polls
               pool := (endTransaction i f s).pool
               lanes := (endTransaction i f s).lanes } := by
  unfold endTransaction
  split
  · rfl
  · rw [wakeLane_frame, reportOutcome_frame, targetOutcome_frame]
    rfl

/-! ### Cycle starts -/

theorem countMisses_frame (ms : List (Fin 48 × MissReason)) (s : State) :
    ms.foldl countMiss s = { s with polls := (ms.foldl countMiss s).polls } :=
  foldl_keeps (P := fun u => u = { s with polls := u.polls })
    (fun u m h => by
      calc countMiss u m = { u with polls := (countMiss u m).polls } := rfl
        _ = _ := by rw [h]) ms s rfl

theorem scheduleCycle_frame (s : State) :
    scheduleCycle s = { s with polls := (scheduleCycle s).polls, lanes := (scheduleCycle s).lanes } := by
  unfold scheduleCycle
  dsimp only
  rw [countMisses_frame]

theorem postAll_frame (bs : List NoticeBody) (s : State) :
    bs.foldl (fun t b => post b t) s =
      { s with notices := (bs.foldl (fun t b => post b t) s).notices
               lostNotices := (bs.foldl (fun t b => post b t) s).lostNotices } :=
  foldl_keeps (P := fun u => u = { s with notices := u.notices, lostNotices := u.lostNotices })
    (fun u b h => by
      calc post b u = { u with notices := (post b u).notices, lostNotices := (post b u).lostNotices } := post_frame b u
        _ = _ := by rw [h]) bs s rfl

theorem postCycle_frame (picks : List Nat) (b s : State) :
    postCycle picks b s =
      { s with notices := (postCycle picks b s).notices, lostNotices := (postCycle picks b s).lostNotices } := by
  unfold postCycle
  exact postAll_frame _ _

theorem triggerAll_frame (ls : List (Fin 8)) (s : State) :
    ls.foldl (fun t l => trigger l t) s =
      { s with lines := (ls.foldl (fun t l => trigger l t) s).lines
               lanes := (ls.foldl (fun t l => trigger l t) s).lanes } :=
  foldl_keeps (P := fun u => u = { s with lines := u.lines, lanes := u.lanes })
    (fun u l h => by
      calc trigger l u = { u with lines := (trigger l u).lines, lanes := (trigger l u).lanes } := by
            rw [trigger_frame]
        _ = _ := by rw [h]) ls s rfl

theorem leaveHoldoffs_frame (picks : List Nat) (s : State) :
    leaveHoldoffs picks s =
      { s with lines := (leaveHoldoffs picks s).lines, lanes := (leaveHoldoffs picks s).lanes } := by
  unfold leaveHoldoffs
  rw [triggerAll_frame]
  have h : ∀ ls : List (Fin 8), ls.foldl armLine s = { s with lines := (ls.foldl armLine s).lines } := fun ls =>
    foldl_keeps (P := fun u => u = { s with lines := u.lines })
      (fun u l h => by
        calc armLine u l = { u with lines := (armLine u l).lines } := rfl
          _ = _ := by rw [h]) ls s rfl
  rw [h]

theorem countDowns_frame (picks : List Nat) (s : State) :
    countDowns picks s =
      { s with targets := (countDowns picks s).targets, lanes := (countDowns picks s).lanes } := by
  unfold countDowns
  have h1 : ∀ (ts : List (Fin 32)) (u : State), ts.foldl (fun u t => queueProbe t u) u =
      { u with targets := (ts.foldl (fun u t => queueProbe t u) u).targets
               lanes := (ts.foldl (fun u t => queueProbe t u) u).lanes } := fun ts u =>
    foldl_keeps (P := fun v => v = { u with targets := v.targets, lanes := v.lanes })
      (fun v t h => by
        calc queueProbe t v = { v with targets := (queueProbe t v).targets, lanes := (queueProbe t v).lanes } :=
              queueProbe_frame t v
          _ = _ := by rw [h]) ts u rfl
  have h2 : ∀ ts : List (Fin 32), ts.foldl (fun u t => lowerCountdown t u) s =
      { s with targets := (ts.foldl (fun u t => lowerCountdown t u) s).targets } := fun ts =>
    foldl_keeps (P := fun v => v = { s with targets := v.targets })
      (fun v t h => by
        calc lowerCountdown t v = { v with targets := (lowerCountdown t v).targets } := rfl
          _ = _ := by rw [h]) ts s rfl
  rw [h1, h2]

/-- A cycle start: what no block of R15 owns is unchanged. -/
theorem startCycle_frame (c : Word16) (s : State) :
    startCycle c s =
      { s with cycle := c
               polls := (startCycle c s).polls
               lanes := (startCycle c s).lanes
               lines := (startCycle c s).lines
               targets := (startCycle c s).targets
               notices := (startCycle c s).notices
               lostNotices := (startCycle c s).lostNotices
               script := (startCycle c s).script
               draws := (startCycle c s).draws } := by
  let P : State → Prop := fun u =>
    u = { s with cycle := c, polls := u.polls, lanes := u.lanes, lines := u.lines, targets := u.targets
                 notices := u.notices, lostNotices := u.lostNotices, script := u.script, draws := u.draws }
  have keep : ∀ u v : State, P u →
      v = { u with polls := v.polls, lanes := v.lanes, lines := v.lines, targets := v.targets
                   notices := v.notices, lostNotices := v.lostNotices, script := v.script, draws := v.draws } → P v := by
    intro u v h e
    cases s; cases u; cases v
    simp only [P, State.mk.injEq] at h e ⊢
    simp_all
  have hSchedule : P (scheduleCycle { s with cycle := c }) := by dsimp only [P]; rw [scheduleCycle_frame]
  have hChoice : ∀ u, P u → P u.afterChoice := fun u h => keep u _ h (by rw [afterChoice_frame])
  have hPost : ∀ k b u, P u → P (postCycle k b u) := fun k b u h => keep u _ h (by rw [postCycle_frame])
  have hLines : ∀ k u, P u → P (leaveHoldoffs k u) := fun k u h => keep u _ h (by rw [leaveHoldoffs_frame])
  have hDown : ∀ k u, P u → P (countDowns k u) := fun k u h => keep u _ h (by rw [countDowns_frame])
  have hWake : ∀ u, P u → P (wakeAll u) := fun u h => keep u _ h (by rw [wakeAll_frame])
  exact hWake _ (hDown _ _ (hChoice _ (hLines _ _ (hChoice _ (hPost _ _ _ (hChoice _ hSchedule))))))

/-! ### Commands -/

theorem hostError_frame (f : HostErrors → HostErrors) (one : HostErrors) (s : State) :
    hostError f one s =
      { s with errors := f s.errors
               notices := (hostError f one s).notices
               lostNotices := (hostError f one s).lostNotices } := by
  unfold hostError
  rw [post_frame]

theorem unlistPoll_frame (p : Fin 48) (s : State) : unlistPoll p s = { s with lanes := (unlistPoll p s).lanes } := by
  unfold unlistPoll
  exact foldl_keeps (P := fun u => u = { s with lanes := u.lanes })
    (fun u i h => by
      split
      · calc wakeLane i (u.setLane i ((u.lane i).dropPoll p)) =
              { u with lanes := (wakeLane i (u.setLane i ((u.lane i).dropPoll p))).lanes } := by
                rw [wakeLane_frame]; rfl
          _ = _ := by rw [h]
      · exact h) _ s rfl

theorem markDefinitionEnd_frame (p : Fin 48) (s : State) :
    markDefinitionEnd p s = { s with lanes := (markDefinitionEnd p s).lanes } := rfl

/-- An admitted command acts on the state of its admission. -/
theorem admission_admitted {kind tag : Byte} {effect : State → State} {s : State} (h0 : tag ≠ 0)
    (hf : tag ∉ s.inFlight) (hn : s.inFlight.length < 8) :
    admission kind tag effect s = effect { s with inFlight := s.inFlight ++ [tag] } := by
  unfold admission
  rw [if_neg h0, if_neg (by simpa using hf), if_neg (by simpa [Config.inFlightTags] using hn)]

/-- Everything admission can do (R133, R134): the effect of an admitted command, a refusal, or an overrun. -/
theorem admission_cases (kind tag : Byte) (effect : State → State) (s : State) :
    (tag ≠ 0 ∧ tag ∉ s.inFlight ∧ s.inFlight.length < 8 ∧
      admission kind tag effect s = effect { s with inFlight := s.inFlight ++ [tag] }) ∨
    ∃ status, (tag = 0 ∨ tag ∈ s.inFlight ∨ 8 ≤ s.inFlight.length) ∧
      admission kind tag effect s = refuse kind tag status s := by
  unfold admission
  by_cases h0 : tag = 0
  · exact .inr ⟨.badTag, .inl h0, if_pos h0⟩
  · rw [if_neg h0]
    by_cases h1 : s.inFlight.contains tag = true
    · exact .inr ⟨.tagInUse, .inr (.inl (by simpa using h1)), if_pos h1⟩
    · rw [if_neg h1]
      by_cases h2 : Config.inFlightTags ≤ s.inFlight.length
      · exact .inr ⟨.full, .inr (.inr h2), if_pos h2⟩
      · rw [if_neg h2]
        exact .inl ⟨h0, by simpa using h1, Nat.lt_of_not_le h2, rfl⟩

/-- A host command that is admitted: its effect on the state of its admission, then the arbiter. -/
theorem hostCommand_admitted {kind tag : Byte} {effect : State → State} {s : State} (h : Admits s tag) :
    hostCommand kind tag effect s = .next (arbitrate (effect (admitted tag s))) := by
  obtain ⟨hr, h0, hf, hn⟩ := h
  unfold hostCommand finish
  rw [if_pos hr, admission_admitted (s := { s with receiver := Receiver.hunting true }) h0 hf hn]
  rfl

/-- While the receiver is off a host command has no effect. -/
theorem hostCommand_off {kind tag : Byte} {effect : State → State} {s : State} (h : s.receiver.on = false) :
    hostCommand kind tag effect s = .next s := by
  unfold hostCommand
  rw [if_neg (by simp [h])]

end Sys2Proof.Machine
end

