-- ==== Sys2Proof/Tests/Slice0.lean ====
section
/-! SUPPORT. Tests of the model: the smoke tests of `wellFormed`, at most two one-step tests per row of the table with the
results that the spec's rules and worked sequences give, and for every statement with hypotheses a witness that meets
them. -/

set_option Elab.async false

namespace Sys2Proof.Tests

open Sys2Proof Sys2Proof.Machine

/-! ### Helpers -/

/-- The state after one command or event. -/
def after (c : Instr) (s : State) : State :=
  match exec c s with
  | .next t => t
  | .fault _ => s
  | .refused _ => s

/-- STANDBY with the receiver on; a frame is being sent, so replies stay in the ready-reply list. -/
def standby : State :=
  { State.reset with op := .standby, receiver := Receiver.hunting true, transmitter := some ⟨.notice, []⟩
                     script := [[1, 0], [0], [2, 1], [0, 1]] }

/-- Target 4 of worked sequence 3.6: lane 1, 3Ch, Register Width 1, Retry Limit 2, Quarantine Threshold 3. -/
def target4 : Target := ⟨.online, 1, 0x3C, 1, 2, 3, 0, 0, 0, .zero⟩

/-- Target 7 of worked sequence 6.6: lane 0, 21h, Register Width 1, Quarantine Threshold 3, Probe Exponent 2. -/
def target7 : Target := ⟨.online, 0, 0x21, 1, 0, 3, 2, 0, 0, .zero⟩

/-- Poll 5 of worked sequence 3.6: reads 2 bytes from target 4 every cycle, in CHANGE mode with a valid snapshot. -/
def poll5 : Poll := ⟨.active, 1, ⟨4, 0, 2, 0, 0, .change, 0, .big, false⟩, ⟨true, .ok, [1, 2]⟩, .zero, none⟩

/-- Poll 21 of worked sequence 5.6: PAUSED with Generation 4, reads 2 bytes from target 4. -/
def poll21 : Poll := ⟨.paused, 4, ⟨4, 0, 2, 0, 0, .every, 0, .big, false⟩, ⟨true, .ok, [0, 0]⟩, .zero, none⟩

/-- Line 2 of worked sequence 5.6: EDGE, Filter 4, bound to poll 21, ARMED with Triggers 11. -/
def line2 : Line := ⟨true, .low, .edge, 4, 21, .armed, false, false, false, 0, 11⟩

/-- Lane 1 of worked sequence 3.6: 400 kbit/s, C = 400, B = 300. -/
def lane1 : Lane := { Lane.afterReset with state := .idle, speed := .s400, capacity := 400, budget := 300 }

/-- The part in STANDBY with lanes 0 and 1 IDLE and the entries above. -/
def fitted : State :=
  ((((((standby.setTarget 4 target4).setTarget 7 target7).setPoll 5 poll5).setPoll 21 poll21).setLine 2 line2).setLane 0
    { Lane.afterReset with state := .idle }).setLane 1 lane1

/-- The same part in RUNNING. -/
def running : State := { fitted with op := .running, cycle := 17 }

/-- `running` with lane 1 changed. -/
def onLane1 (f : Lane → Lane) : State := running.setLane 1 (f { lane1 with remaining := 400 })

/-- The transaction of worked sequence 3.6: poll 5, first attempt. -/
def pollRun : Transaction :=
  ⟨.poll 5, 1, 4, .read, 0, 2, 1, 7, 7, false, false, [⟨0x78, [0], 0⟩, ⟨0x79, [], 2⟩]⟩

/-- Lane 1 BUSY with a transaction that holds a slot and a block. -/
def busyWith (x : Transaction) : State :=
  { onLane1 (fun l => { l with state := .busy, remaining := 393, txn := some x, reservation := .slotAndBlock }) with
      pool := ⟨63, 63⟩ }

/-- Job 88, a READ of 32 bytes from target 4 (worked sequence 3.6). -/
def job88 : Job := ⟨88, 9, 4, .read, 0, 32, none, false⟩

/-- A WRITE of 2 bytes to target 4. -/
def writeJob : Job := ⟨6, 8, 4, .write, 0, 2, some [1, 2], false⟩

/-- Job 88 running. -/
def jobRun : Transaction :=
  ⟨.job job88, 0, 4, .read, 0, 32, 1, 37, 37, false, false, [⟨0x78, [0], 0⟩, ⟨0x79, [], 32⟩]⟩

/-- The alert read of line 2 running. -/
def alertRun : Transaction :=
  ⟨.alert 2, 4, 4, .read, 0, 2, 1, 7, 7, false, false, [⟨0x78, [0], 0⟩, ⟨0x79, [], 2⟩]⟩

/-- A revival probe of target 7 running. -/
def probeRun : Transaction := ⟨.probe, 0, 7, .probe, 0, 0, 1, 2, 2, false, false, [⟨0x42, [], 0⟩]⟩

/-- A record of a job without data. -/
def plainRecord : Record := ⟨.job 1 1 0, 4, 0, .ok, none⟩

/-! ### Well-formedness -/

theorem test_wellFormed_body_too_long : (Instr.ping 1 (List.replicate 249 0)).wellFormed = false := by decide +kernel

theorem test_wellFormed_action_body_too_long :
    (Instr.setPollStatePause 1 0 (List.replicate 247 0)).wellFormed = false := by decide +kernel

theorem test_wellFormed_read_too_long :
    (Instr.transactionEnd 0 (.completed (List.replicate 33 0))).wellFormed = false := by decide +kernel

theorem test_wellFormed_index_too_high :
    (Instr.transactionEnd 0 (.notAcknowledged 34)).wellFormed = false := by decide

theorem test_wellFormed_longest : (Instr.ping 1 (List.replicate 248 0)).wellFormed = true := by decide +kernel

/-! ### Frames (R158, 12.1, 12.2) -/

/-- The example of R158. -/
theorem test_check_of_nine_bytes :
    crcBytes [0x31, 0x32, 0x33, 0x34, 0x35, 0x36, 0x37, 0x38, 0x39] = [0x29, 0xB1] := by decide +kernel

/-- The example of 12.1: a GRANT with tag 7 and Amount 2. -/
theorem test_grant_frame : (frameBytes 0x18 7 [2]).take 5 = [0x5A, 0x03, 0x18, 0x07, 0x02] := by decide +kernel

/-- The table gives no bits, so no word spells a command. -/
theorem test_no_word_spells_a_command : decodeTableWord 8 1 = none ∧ State.reset.withFetchWord 8 1 = State.reset := by
  decide +kernel

/-! ### Host commands, one step each -/

theorem test_ping : (after (.ping 5 [9, 8]) standby).ready = [⟨.command, 0x81, 5, [0x00, 9, 8]⟩] := by decide +kernel

theorem test_ping_at_limits :
    (after (.ping 5 (List.replicate 247 1)) standby).ready.map (fun r => r.body.length) = [248] ∧
    (after (.ping 5 (List.replicate 248 1)) standby).ready = [⟨.command, 0x81, 5, [0x05]⟩] := by decide +kernel

theorem test_getStatus :
    (after (.getStatus 3 []) running).ready.map (·.body) =
      [[0x00, 0x02, 0, 17, 0, 0, 0, 0, 0, 0, 64, 64, 0, 0, 1, 1, 1, 0, 0, 0, 0, 0, 0, 0, 0, 0, 0]] := by decide +kernel

theorem test_clearCounters :
    (after (.clearCounters 3 [0x06]) { standby with errors := ⟨1, 2, 3, 4⟩ }).errors = ⟨0, 0, 0, 0⟩ ∧
    (after (.clearCounters 3 [0x05]) { standby with errors := ⟨1, 2, 3, 4⟩, pool := ⟨9, 2⟩ }).pool = ⟨9, 9⟩ := by
  decide +kernel

theorem test_reset :
    (after (.reset 3 []) standby).ready = [⟨.resetCommand, 0x84, 3, [0x00]⟩] ∧
    (after (.reset 3 []) standby).receiver.on = false := by decide +kernel

/-- Step 8 of worked sequence 11.6: START makes the first cycle start, number 0. -/
theorem test_start :
    (after (.start 5 []) fitted).op = .running ∧ (after (.start 5 []) fitted).cycle = 0 ∧
    ((after (.start 5 []) fitted).lane 1).workList = [5] ∧
    (after (.start 5 []) fitted).ready.map (·.body) = [[0x00, 10, 1, 1, 0, 0]] := by decide +kernel

/-- Step 9 of worked sequence 11.6: with a lane BUSY the STOP reply is deferred. -/
theorem test_stop :
    (after (.stop 9 []) (busyWith pollRun)).op = .draining ∧ (after (.stop 9 []) (busyWith pollRun)).ready = [] ∧
    (after (.stop 9 []) running).ready.map (·.body) = [[0x00, 0, 17, 0]] := by decide +kernel

/-- Worked sequence 2.7: with I = 1 ms at 100 kbit/s and 75 %, C = 10 and B = 7. -/
theorem test_setCycle :
    ((after (.setCycle 3 [1]) fitted).lane 0).capacity = 10 ∧ ((after (.setCycle 3 [1]) fitted).lane 0).budget = 7 ∧
    (after (.setCycle 3 [251]) fitted).ready.map (·.body) = [[0x06]] := by decide +kernel

theorem test_definePoll :
    ((after (.definePoll 3 [21, 4, 0, 0, 2, 1, 1, 0, 0, 9, 1, 0, 1]) running).poll 21).generation = 5 ∧
    ((after (.definePoll 3 [21, 4, 0, 0, 2, 1, 1, 0, 0, 9, 1, 0, 1]) running).poll 21).defn.threshold = 0 ∧
    (after (.definePoll 3 [21, 4, 0, 0, 2, 1, 2, 0, 0, 9, 1, 0, 1]) running).ready.map (·.body) = [[0x06]] := by
  decide +kernel

/-- Worked sequence 1.4: an enabled line blocks DELETE_POLL; a running transaction is marked discarded. -/
theorem test_deletePoll :
    (after (.deletePoll 3 [21]) running).ready.map (·.body) = [[0x09]] ∧
    ((after (.deletePoll 3 [5]) (busyWith pollRun)).poll 5).state = .free ∧
    ((after (.deletePoll 3 [5]) (busyWith pollRun)).lane 1).txn = some { pollRun with discarded := true } := by
  decide +kernel

theorem test_setPollStatePause :
    ((after (.setPollStatePause 3 5 []) (onLane1 fun l => { l with workList := [5] })).lane 1).workList = [] ∧
    (after (.setPollStatePause 3 5 []) running).ready.map (·.body) = [[0x00, 5, 2]] := by decide +kernel

theorem test_setPollStateResume :
    ((after (.setPollStateResume 3 21 []) running).poll 21).state = .active ∧
    (after (.setPollStateResume 3 20 []) running).ready.map (·.body) = [[0x08]] := by decide +kernel

theorem test_readPoll :
    (after (.readPoll 3 [5]) (busyWith pollRun)).ready.map (·.body) =
      [[0x00, 5, 1, 1, 4, 0, 0, 2, 0, 0, 1, 0, 0, 0, 0, 1, 0, 2, 1, 2, 0, 0, 0, 0, 0, 0, 0, 0, 0, 0, 0, 0, 0, 0,
        1, 7, 0, 1, 0]] := by decide +kernel

/-- Poll 21 was deleted while the alert read bound to it runs: Running is NONE (R28), and line 2 is still listed. -/
theorem test_readPoll_definition_gone :
    (after (.readPoll 3 [21]) ((busyWith { alertRun with definitionGone := true }).setPoll 21 (Poll.free 4))).ready.map
      (fun r => r.body.drop 32) = [[0, 0, 0, 0, 1, 2]] := by decide +kernel

/-- Step 5 of worked sequence 11.6: 400 kbit/s at I = 10 ms gives C = 400 and B = 300. -/
theorem test_setLane :
    ((after (.setLane 2 [0, 1, 0x01, 0x90, 25, 75]) standby).lane 0).capacity = 400 ∧
    ((after (.setLane 2 [0, 1, 0x01, 0x90, 25, 75]) standby).lane 0).budget = 300 ∧
    (after (.setLane 2 [0, 1, 0x01, 0x90, 25, 75]) standby).ready.map (·.body) = [[0x00, 0, 1]] := by decide +kernel

theorem test_readLane :
    (after (.readLane 2 [1]) (busyWith pollRun)).ready.map (fun r => r.body.take 16) =
      [[0x00, 1, 2, 0x01, 0x90, 25, 75, 0x01, 0x90, 0x01, 0x2C, 0x01, 0x89, 0, 0, 0]] := by decide +kernel

theorem test_laneReset :
    ((after (.laneReset 41 [1]) running).lane 1).state = .recovering ∧
    ((after (.laneReset 41 [1]) running).lane 1).waitingResets = [41] ∧
    (after (.laneReset 41 [2]) running).ready.map (·.body) = [[0x0F]] := by decide +kernel

theorem test_bindTarget :
    (after (.bindTarget 3 [9, 2, 0x4A, 1, 0, 3, 0]) standby).notices = [⟨.targetState 9 .online 0, 1⟩] ∧
    (after (.bindTarget 3 [9, 1, 0x3C, 1, 0, 3, 0]) running).ready.map (·.body) = [[0x0A]] := by decide +kernel

/-- Worked sequence 1.4: a target that polls refer to is IN_USE. -/
theorem test_unbindTarget :
    (after (.unbindTarget 3 [4]) running).ready.map (·.body) = [[0x09]] ∧
    ((after (.unbindTarget 3 [7]) running).target 7) = Target.free := by decide +kernel

theorem test_readTarget :
    (after (.readTarget 3 [4]) (busyWith pollRun)).ready.map (·.body) =
      [[0x00, 4, 1, 1, 0x3C, 1, 2, 3, 0, 0, 0, 0, 0, 0, 0, 0, 0, 0, 0, 0, 0, 2, 0, 1, 0, 0]] := by decide +kernel

theorem test_setTargetStateRevive :
    ((after (.setTargetStateRevive 3 7 []) (running.setTarget 7 { target7 with state := .suspect, failures := 2 })).target
      7).failures = 0 ∧
    (after (.setTargetStateRevive 3 8 []) running).ready.map (·.body) = [[0x08]] := by decide +kernel

theorem test_setTargetStateQuarantine :
    ((after (.setTargetStateQuarantine 3 7 []) running).target 7).countdown = 4 ∧
    (after (.setTargetStateQuarantine 3 7 []) running).notices = [⟨.targetState 7 .quarantined 0, 1⟩] := by
  decide +kernel

/-- A READ of 32 bytes from target 4 costs 37 and takes the first job number. -/
theorem test_submit :
    (after (.submit 9 [4, 0, 0, 0, 32]) running).ready.map (·.body) = [[0x00, 0, 1]] ∧
    (after (.submit 9 [4, 0, 1, 0, 32]) running).ready.map (·.body) = [[0x06]] := by decide +kernel

theorem test_cancel :
    (after (.cancel 61 [0, 88]) (busyWith jobRun)).ready.map (·.body) = [[0x11]] ∧
    (after (.cancel 60 [0, 6]) (onLane1 fun l => { l with jobs := [job88, writeJob] })).records =
      [⟨.job 6 8 0, 4, 17, .cancelled, none⟩] := by decide +kernel

theorem test_flushLane :
    (after (.flushLane 60 [1]) (onLane1 fun l => { l with jobs := [job88, writeJob] })).ready.map (·.body) =
      [[0x00, 1, 2]] ∧
    (after (.flushLane 60 [1])
      { onLane1 (fun l => { l with jobs := [job88, writeJob] }) with records := List.replicate 47 plainRecord }).ready.map
        (·.body) = [[0x0D]] := by decide +kernel

theorem test_setAlertEnable :
    ((after (.setAlertEnable 3 0 [1, 1, 0, 21]) running).line 0).state = .pending ∧
    ((after (.setAlertEnable 3 0 [0, 0, 0, 21]) running).line 0).state = .armed := by decide +kernel

theorem test_setAlertDisable :
    ((after (.setAlertDisable 3 2 [9, 9, 9, 99]) running).line 2).state = .off ∧
    ((after (.setAlertDisable 3 2 [0, 0, 0, 0])
      ((busyWith alertRun).setLine 2 { line2 with state := .running })).line 2).closing = true := by decide +kernel

theorem test_readAlert :
    (after (.readAlert 3 [2]) running).ready.map (·.body) =
      [[0x00, 2, 1, 0, 0, 4, 21, 1, 0, 0, 0, 0, 0, 11, 0, 1, 0]] := by decide +kernel

theorem test_grant :
    (after (.grant 3 [2]) { standby with credit := 4094 }).credit = 4095 ∧
    (after (.grant 3 [0]) standby).ready.map (·.body) = [[0x06]] := by decide +kernel

/-! ### Resets, the Host Port and time, one step each -/

theorem test_powerOn :
    (after .powerOn running).op = .init ∧ (after .powerOn running).heldInReset = true ∧
    (after .powerOn running).resetCause = .powerOn := by decide +kernel

theorem test_resetInput : (after .resetInput running).resetCause = .resetPin ∧ (after .resetInput running).records = [] := by
  decide +kernel

theorem test_supplyBelow :
    (after .supplyBelowOperatingLevel running).supplyUp = false ∧
    (after .supplyBelowOperatingLevel running).resetCause = .powerOn := by decide +kernel

theorem test_resetRelease :
    (after (.resetRelease true false) { State.reset with heldInReset := true }).rate = .r921600 ∧
    (after (.resetRelease true false) { State.reset with heldInReset := true }).heldInReset = false := by decide +kernel

/-- 12.5: the body of the ANNOUNCE is 00h, 01h, 04h, 20h, 30h, 08h, 40h, 30h, 10h, 08h after a power-on. -/
theorem test_initEnd :
    (after .initEnd State.reset).op = .standby ∧
    (after .initEnd State.reset).transmitter.map (fun f => (f.bytes.drop 4).take 10) =
      some [0x00, 0x01, 0x04, 0x20, 0x30, 0x08, 0x40, 0x30, 0x10, 0x08] := by decide +kernel

theorem test_receiveByte :
    (after (.receiveByte (characterOf 0x5A)) standby).receiver.state = .length ∧
    (after (.receiveByte (characterOf 251)) { standby with receiver := ⟨true, .length, [], 0, true⟩ }).errors =
      ⟨0, 1, 0, 0⟩ := by decide +kernel

/-- The characters of 5Ah, 0101 1010 from the least significant bit on (R129): one with its stop bit found low is taken, one
whose start bit began before the receiver came on is not (R141). -/
theorem test_receiveByte_character :
    (after (.receiveByte ⟨#v[false, true, false, true, true, false, true, false], false, false⟩) standby).receiver.state =
      .length ∧
    (after (.receiveByte ⟨#v[false, true, false, true, true, false, true, false], true, true⟩) standby).receiver.state =
      .hunt := by decide +kernel

/-- HTX while a frame is sent: the first character is 5Ah between its start bit and its stop bit, and the line is at the
stop level when nothing is being sent (R129). -/
theorem test_htx_levels :
    (List.range 11).map { standby with transmitter := some ⟨.notice, [0x5A, 0x02]⟩ }.htx =
      [false, false, true, false, true, true, false, true, false, true, false] ∧
    { standby with transmitter := none }.htx 3 = true := by decide +kernel

theorem test_gapTimeout :
    (after .gapTimeout { standby with receiver := ⟨true, .length, [], 0, true⟩ }).errors = ⟨1, 0, 0, 0⟩ ∧
    after .gapTimeout standby = standby := by decide +kernel

/-- Step 6 of worked sequence 11.6: a notice is sent with sequence 0 and takes one credit. -/
theorem test_transmitEnd :
    (after .transmitEnd { standby with credit := 64, notices := [⟨.targetState 0 .online 0, 1⟩] }).credit = 63 ∧
    (after .transmitEnd { standby with credit := 64, notices := [⟨.targetState 0 .online 0, 1⟩] }).transmitter.map
      (fun f => (f.bytes.drop 4).take 8) = some [0, 0, 0, 0x01, 0, 1, 0x01, 0] := by decide +kernel

theorem test_cycleStart :
    (after .cycleStart { running with cycle := 65535 }).cycle = 0 ∧ ((after .cycleStart running).lane 1).remaining = 400 ∧
    ((after .cycleStart (busyWith pollRun)).lane 1).counts.slips = 1 := by decide +kernel

/-! ### Lanes, one step each (worked sequences 3.6 and 3.8) -/

/-- Step 2 of 3.6: R goes from 400 to 393. -/
theorem test_lookForWork :
    ((after (.lookForWork 1) (onLane1 fun l => { l with workList := [5], lookOwed := true })).lane 1).remaining = 393 ∧
    ((after (.lookForWork 1) (onLane1 fun l => { l with workList := [5], lookOwed := true })).lane 1).txn =
      some pollRun := by decide +kernel

/-- Step 3 of 3.6: the retry takes R to 386 and Charged to 14. -/
theorem test_attemptAddrNack :
    ((after (.attemptAddrNack 1) (busyWith pollRun)).lane 1).remaining = 386 ∧
    ((after (.attemptAddrNack 1) (busyWith pollRun)).lane 1).txn =
      some { pollRun with attempt := 2, charged := 14 } := by decide +kernel

/-- The stretch timeout of 3.8: RECOVERING, one failure of the target, a record since the status differs. -/
theorem test_stretchTimeout :
    ((after (.stretchTimeout 1) (busyWith pollRun)).lane 1).state = .recovering ∧
    ((after (.stretchTimeout 1) (busyWith pollRun)).target 4).state = .suspect ∧
    (after (.stretchTimeout 1) (busyWith pollRun)).records = [⟨.poll 5 1 0, 4, 17, .stretchTimeout, none⟩] := by
  decide +kernel

theorem test_busStuck :
    ((after (.busStuck 1) (busyWith pollRun)).lane 1).counts.recoveries = 1 ∧
    ((after (.busStuck 1) (busyWith pollRun)).target 4).failures = 0 := by decide +kernel

theorem test_arbLost : ((after (.arbLost 1) (busyWith pollRun)).lane 1).counts.arbLosses = 1 := by decide +kernel

/-- A CHANGE poll is reported when its data differ, and dropped when they do not (R113). -/
theorem test_transactionEnd :
    (after (.transactionEnd 1 (.completed [1, 3])) (busyWith pollRun)).records =
      [⟨.poll 5 1 0, 4, 17, .ok, some [1, 3]⟩] ∧
    (after (.transactionEnd 1 (.completed [1, 2])) (busyWith pollRun)).records = [] ∧
    (after (.transactionEnd 1 (.completed [1, 2])) (busyWith pollRun)).pool = ⟨64, 63⟩ := by decide +kernel

/-- Step 1 of a WRITE with a register byte and 2 data bytes: the second data byte not acknowledged gives a count of 1. -/
theorem test_transactionEnd_dataNack :
    (after (.transactionEnd 1 (.notAcknowledged 2))
      { onLane1 (fun l => { l with
          state := .busy, reservation := .slot
          txn := some ⟨.job writeJob, 0, 4, .write, 0, 2, 1, 5, 5, false, false, [⟨0x78, [0, 1, 2], 0⟩]⟩ }) with
        pool := ⟨63, 63⟩ }).records = [⟨.job 6 8 1, 4, 17, .dataNack, none⟩] := by decide +kernel

theorem test_recoveryEnd :
    ((after (.recoveryEnd 1 .sdaHeld) (onLane1 fun l => { l with state := .recovering })).lane 1).lastFault = .sdaHeld ∧
    (after (.recoveryEnd 1 .busFree)
      (onLane1 fun l => { l with state := .recovering, waitingResets := [41] })).ready.map (·.body) = [[0x00, 1, 1]] := by
  decide +kernel

/-- The fault of 3.8: Faults 1 and a LANE_STATE notice FAULTED, FAULT_SCL_HELD. -/
theorem test_recoverySclTimeout :
    (after (.recoverySclTimeout 1) (onLane1 fun l => { l with state := .recovering })).notices =
      [⟨.laneState 1 .faulted .faultSclHeld, 1⟩] ∧
    ((after (.recoverySclTimeout 1) (onLane1 fun l => { l with state := .recovering })).lane 1).counts.faults = 1 := by
  decide +kernel

/-- Lane 1 with one marked job, the part DRAINING under tag 9. -/
def draining : State :=
  { onLane1 (fun l => { l with jobs := [{ writeJob with cancelling := true }] }) with
      op := .draining, stopTag := some 9, inFlight := [9], pool := ⟨63, 63⟩, cycle := 900 }

/-- Step 12 of worked sequence 11.6: the last removal ends the drain. -/
theorem test_drainRemoval :
    (after (.drainRemoval 1) draining).op = .standby ∧
    (after (.drainRemoval 1) draining).ready.map (·.body) = [[0x00, 0x03, 0x84, 1]] := by decide +kernel

/-! ### Alert inputs, one step each (worked sequence 5.6) -/

theorem test_alertInputChange :
    ((after (.alertInputChange 2 false) (running.setLine 2 { line2 with filter := 0 })).line 2).state = .pending ∧
    ((after (.alertInputChange 2 false) running).line 2).state = .armed := by decide +kernel

/-- At 200 µs of 5.6: trigger, Triggers 12. -/
theorem test_alertFilterExpiry :
    ((after (.alertFilterExpiry 2) { running with alertPins := running.alertPins.set 2 false }).line 2).triggers = 12 ∧
    ((after (.alertFilterExpiry 2) { running with alertPins := running.alertPins.set 2 false }).lane 1).alertTier = [2] := by
  decide +kernel

/-- Line 2 in LEVEL mode and active, the evaluation of START owed. -/
def levelActive : State :=
  { running.setLine 2 { line2 with mode := .level, level := true } with evaluationOwed := true }

theorem test_alertEvaluation :
    ((after .alertEvaluation levelActive).line 2).state = .pending ∧
    ((after .alertEvaluation { levelActive with op := .standby }).line 2).state = .armed := by decide +kernel

/-! ### Witnesses: for each statement with hypotheses, states and operands that meet them, clause by clause -/

/-- A proposition whose decision says yes. -/
theorem holds {p : Prop} (d : Decidable p) (h : @decide p d = true) : p := of_decide_eq_true h

/-- `Target.Sound`, decidably. -/
@[reducible] def soundDecidable (t : Target) : Decidable t.Sound := by
  unfold Target.Sound
  split <;> infer_instance

/-- `HealthInv`, decidably. -/
@[reducible] def healthDecidable (s : State) : Decidable (HealthInv s) := by
  haveI := soundDecidable
  unfold HealthInv ProbesSound
  infer_instance

/-- The definition of a poll entry is in range, decidably. -/
@[reducible] def inRangeDecidable (d : PollDef) : Decidable d.InRange := by unfold PollDef.InRange; infer_instance

/-- `ScheduleInv`, decidably. -/
@[reducible] def scheduleDecidable (s : State) : Decidable (ScheduleInv s) := by
  haveI := inRangeDecidable
  unfold ScheduleInv
  infer_instance

/-- `JobInv`, decidably. -/
@[reducible] def jobDecidable (s : State) : Decidable (JobInv s) := by
  unfold JobInv Job.Sound
  infer_instance

/-- `QuietInv`, decidably. -/
@[reducible] def quietDecidable (s : State) : Decidable (QuietInv s) := by
  unfold QuietInv InReset
  infer_instance

/-- The commands of the query, setting and pool families are admitted, in STANDBY and in RUNNING, with the lowest and the
highest tag: the hypotheses that the statements on host commands share. -/
theorem witness_admits :
    Admits standby 1 ∧ standby.op ≠ .init ∧ standby.op = .standby ∧ Admits running 255 ∧ running.op ≠ .init ∧
      running.op = .running := by decide +kernel

theorem witness_FrameBytesCarryOutCommand :
    (Instr.grant 7 [2]).hostFrame = some (0x18, 7, [2]) ∧ (Instr.grant 7 [2]).wellFormed = true ∧
    (Instr.ping 7 (List.replicate 248 0)).hostFrame = some (0x01, 7, List.replicate 248 0) ∧
    (Instr.ping 7 (List.replicate 248 0)).wellFormed = true ∧
    running.receiver = Receiver.hunting true ∧ Settled running := by decide +kernel

theorem witness_OtherGoodFramesAreAnswered :
    running.receiver = Receiver.hunting true ∧ Settled running ∧ Admits running 7 ∧ running.op ≠ .init ∧
    (List.replicate 248 (0 : Byte)).length ≤ 248 ∧ 0x19 ≤ (0x19 : Byte).toNat ∧ 0x19 ≤ (0x42 : Byte).toNat ∧
    ([] : List Byte).length ≠ 2 ∧ ([0] : List Byte).length ≠ 6 ∧ 2 ≤ (2 : Byte).toNat ∧ 2 ≤ (255 : Byte).toNat ∧
    (7 : Byte) ≠ 0 ∧ (7 : Byte) ∈ [(7 : Byte)] ∧ Settled { running with inFlight := [7] } ∧
    Settled { running with inFlight := [1, 2, 3, 4, 5, 6, 8, 9] } ∧ (7 : Byte) ∉ [(1 : Byte), 2, 3, 4, 5, 6, 8, 9] ∧
    (List.replicate 3 (⟨.refusal, 0x82, 0, [0x03]⟩ : Reply)).length < 4 ∧
    ¬ (List.replicate 4 (⟨.refusal, 0x82, 0, [0x03]⟩ : Reply)).length < 4 := by decide +kernel

/-- `standby` with the receiver in another state. -/
def receiving (r : Receiver) : State := { standby with receiver := r }

theorem witness_ReceiverTakesByte :
    (receiving (Receiver.hunting false)).receiver.on = false ∧ standby.receiver.on = true ∧
    (characterOf 0x5A).early = false ∧ 0x5A = characterByte (characterOf 0x5A) ∧
    { characterOf 0x5A with early := true }.early = true ∧ standby.transmitter = some ⟨.notice, []⟩ ∧
    ([0x5A, 2] : List Byte)[1]? = some 2 ∧ State.reset.transmitter = none ∧
    standby.receiver.state = .hunt ∧
    (receiving ⟨true, .length, [], 0, true⟩).receiver.state = .length ∧
    2 ≤ (2 : Byte).toNat ∧ (250 : Byte).toNat ≤ 250 ∧ ¬ (2 ≤ (1 : Byte).toNat) ∧ ¬ ((251 : Byte).toNat ≤ 250) ∧
    2 ≤ (receiving ⟨true, .body, [2], 2, true⟩).receiver.expects ∧
    (receiving ⟨true, .body, [2, 1], 1, true⟩).receiver.expects = 1 ∧
    (receiving ⟨true, .check, [2, 1, 1], 2, true⟩).receiver.expects = 2 ∧
    (receiving ⟨true, .check, [2, 1, 1] ++ [0], 1, true⟩).receiver.buffer = [2, 1, 1] ++ [0] ∧
    crcBytes [2, 1, 1] ≠ [0, 0] := by decide +kernel

/-- `standby` with `n` commands in flight. -/
def inFlight (n : Nat) : State := { standby with inFlight := (List.range n).map fun k => byte (k + 1) }

theorem witness_AdmissionRefusals :
    (Instr.getStatus 0 []).hostFrame = some (0x02, 0, []) ∧ standby.receiver.on = true ∧
    (inFlight 1).receiver.on = true ∧ (1 : Byte) ∈ (inFlight 1).inFlight ∧
    (9 : Byte) ∉ (inFlight 8).inFlight ∧ 8 ≤ (inFlight 8).inFlight.length ∧
    (({ standby with ready := List.replicate 3 ⟨.refusal, 0x82, 0, [0x03]⟩ } : State).ready.filter fun r =>
      r.origin == .refusal).length < 4 ∧
    ¬ (({ standby with ready := List.replicate 4 ⟨.refusal, 0x82, 0, [0x03]⟩ } : State).ready.filter fun r =>
      r.origin == .refusal).length < 4 ∧
    (receiving (Receiver.hunting false)).receiver.on = false := by decide +kernel

theorem witness_LengthThenStateRefusals :
    (Instr.start 1 [0]).hostFrame = some (0x05, 1, [0]) ∧ lengthAllowed 0x05 [0] = false ∧
    (Instr.start 1 []).hostFrame = some (0x05, 1, []) ∧ lengthAllowed 0x05 [] = true ∧
    legalIn 0x05 running.op = false ∧ Admits running 1 ∧ running.op ≠ .init := by decide +kernel

/-- `standby` sending a RESULT frame, with the credit and the waiting items given. -/
def sending (credit : Nat) (ready : List Reply) (notices : List Notice) (records : List Record) : State :=
  { standby with transmitter := some ⟨.result, []⟩, credit := credit, ready := ready, notices := notices
                 records := records }

theorem witness_TransmitEndTakesNextItem :
    (sending 0 [] [] []).transmitter = some ⟨.result, []⟩ ∧
    FrameContent.result ≠ .announce ∧ FrameContent.result ≠ .reply .resetCommand ∧
    ({ sending 0 [] [] [] with announcePending := true } : State).announcePending = true ∧
    (sending 0 [] [] []).announcePending = false ∧
    (sending 0 [⟨.command, 0x81, 1, [0]⟩] [] []).ready = ⟨.command, 0x81, 1, [0]⟩ :: [] ∧
    (sending 0 [] [] []).ready = [] ∧ (sending 0 [] [] []).credit = 0 ∧ 1 ≤ (sending 1 [] [] []).credit ∧
    (sending 1 [] [] []).notices = [] ∧ (sending 1 [] [] []).records = [] ∧
    (sending 1 [] [⟨.hostErrors .zero, 1⟩] []).notices = ⟨.hostErrors .zero, 1⟩ :: [] ∧
    (sending 4095 [] [] [plainRecord]).records = plainRecord :: [] := by decide +kernel

/-- The RESULT frame of job 88's record: LENGTH 17 and no Data, Source and Origin Tag in their places (12.5). -/
theorem test_result_frame :
    (frameBytes 0xC0 0 (resultBody 0x0102 ⟨.job 88 9 0, 4, 17, .addrNack, none⟩)).take 19 =
      [0x5A, 17, 0xC0, 0, 0x01, 0x02, 0x02, 0, 88, 0, 9, 4, 0, 17, 0x01, 0, 0, 0, 0] := by decide +kernel

theorem witness_ResetHoldsThenInitAnnounces :
    (Instr.powerOn, ResetCause.powerOn, true) ∈ [(Instr.powerOn, ResetCause.powerOn, true),
      (.resetInput, .resetPin, running.supplyUp), (.supplyBelowOperatingLevel, .powerOn, false)] ∧
    State.reset.op = .init ∧ State.reset.heldInReset = false ∧ State.reset.transmitter = none ∧
    (after .initEnd State.reset).transmitter.map (·.content) = some .announce := by decide +kernel

theorem witness_ResetCommandResetsThePart :
    Admits running 1 ∧ running.op ≠ .init ∧
    ({ standby with transmitter := some ⟨.reply .resetCommand, [1]⟩ } : State).transmitter =
      some ⟨.reply .resetCommand, [1]⟩ := by decide +kernel

/-- What STOP leaves of `s` before DRAINING may end: the state that `StopDrainsToStandby` describes. -/
def stopped (tag : Byte) (s : State) : State :=
  { admitted tag s with
      op := .draining
      stopTag := some tag
      drainCancelled := 0
      evaluationOwed := false
      targets := Table.ofFn fun t =>
        if ∃ i, t ∈ (s.lane i).probeTier then { s.target t with countdown := countdownOf (s.target t).probeExponent }
        else s.target t
      lanes := s.lanes.map fun l =>
        { l with workList := [], probeTier := [], alertTier := [], lookOwed := false
                 jobs := l.jobs.map fun j => { j with cancelling := true } }
      lines := s.lines.map fun l =>
        match l.state with
        | .pending => { l with state := .armed, followUp := false, extraEdges := 0 }
        | .holdoff => { l with state := .armed, followUp := false }
        | .running => { l with followUp := false }
        | .off | .armed => l }

theorem witness_StopDrainsToStandby :
    Admits (busyWith pollRun) 9 ∧ (busyWith pollRun).op = .running ∧ ¬ DrainOver (stopped 9 (busyWith pollRun)) ∧
    Admits running 9 ∧ DrainOver (stopped 9 running) ∧ (stopped 9 running).stopTag = some 9 ∧
    (stopped 9 running).op = .draining ∧ running.op ≠ .draining := by decide +kernel

theorem witness_StartMakesFirstCycle : Admits fitted 5 ∧ fitted.op = .standby := by decide +kernel

theorem witness_CycleStartOpensLanes :
    running.op = .running ∧ fitted.op ≠ .running ∧ (running.lane 1).state = .idle ∧
    (busyWith pollRun |>.lane 1).state = .busy := by decide +kernel

/-- Lane 1 with a poll budget that poll 5 (cost 7) exceeds by one. -/
def tightBudget : State := onLane1 fun l => { l with budget := 6 }

theorem witness_AdmissionFillsWorkList :
    (running.lane 2).state ≠ .idle ∧ (running.lane 2).state ≠ .busy ∧
    (5 : Fin 48) ∈ ((startCycle 18 running).lane 1).workList ∧
    (tightBudget.lane 1).state = .idle ∧ (tightBudget.poll 5).state = .active ∧
    (18 : Word16).toNat % 2 ^ (tightBudget.poll 5).defn.periodExponent.val = (tightBudget.poll 5).defn.phase ∧
    pollLane tightBudget 5 = 1 ∧ (tightBudget.target (tightBudget.poll 5).defn.target).state ≠ .quarantined ∧
    (5 : Fin 48) ∉ ((startCycle 18 tightBudget).lane 1).workList := by decide +kernel

theorem witness_CycleStartCountsMisses :
    ScheduleInv running ∧ ScheduleInv (onLane1 fun l => { l with workList := [5] }) :=
  ⟨holds (scheduleDecidable _) (by decide +kernel), holds (scheduleDecidable _) (by decide +kernel)⟩

/-- Line 2 in HOLDOFF and target 7 QUARANTINED with one cycle start to go. -/
def waiting : State :=
  (running.setLine 2 { line2 with mode := .level, state := .holdoff, level := true }).setTarget 7
    { target7 with state := .quarantined, failures := 3, countdown := 1 }

theorem witness_CycleStartMovesLinesAndProbes :
    (waiting.line 2).state = .holdoff ∧ (waiting.line 2).level = true ∧ lineLane waiting 2 = 1 ∧
    (waiting.target 7).state = .quarantined ∧ (waiting.target 7).probeExponent ≠ 0 ∧
    (∀ i, (7 : Fin 32) ∉ (waiting.lane i).probeTier) ∧ ¬ ProbeRuns waiting 7 ∧ (waiting.target 7).countdown = 1 := by
  decide +kernel

theorem witness_BindTargetFillsEntry :
    Admits standby 1 ∧ standby.op ≠ .init ∧
    ¬ ((32 : Byte).toNat < 32 ∧ (0 : Byte).toNat < 4 ∧ (0x08 ≤ (8 : Byte).toNat ∧ (8 : Byte).toNat ≤ 0x77) ∧
      (0 : Byte).toNat < 3 ∧ (0 : Byte).toNat < 4 ∧ (0 : Byte).toNat < 16 ∧ (0 : Byte).toNat < 8) ∧
    0x08 ≤ (0x08 : BitVec 7).toNat ∧ (0x77 : BitVec 7).toNat ≤ 0x77 := by decide +kernel

theorem witness_numbers_out_of_range :
    32 ≤ (32 : Byte).toNat ∧ 48 ≤ (48 : Byte).toNat ∧ 8 ≤ (8 : Byte).toNat ∧ 4 ≤ (4 : Byte).toNat := by decide

theorem witness_SetTargetStateMovesTarget :
    Admits waiting 1 ∧ waiting.op ≠ .init ∧ (waiting.target 0).state = .free ∧ (waiting.target 4).state = .online ∧
    (waiting.target 7).state = .quarantined := by decide +kernel

theorem witness_OutcomeMovesTarget :
    ((busyWith pollRun).lane 1).txn = some pollRun ∧ RecordStatus.ok ≠ .cancelled ∧ RecordStatus.ok ≠ .quarantined ∧
    ((busyWith pollRun).target pollRun.target).state ≠ .free ∧
    ((endTransaction 1 ⟨.ok, [1, 2], 0⟩ (busyWith pollRun)).target 4).state =
      ((busyWith pollRun).target 4).state ∧
    ((endTransaction 1 ⟨.addrNack, [], 0⟩ (busyWith pollRun)).target 4).state ≠
      ((busyWith pollRun).target 4).state := by decide +kernel

theorem witness_body_of_another_length : ([] : List Byte).length ≠ 1 ∧ ([1, 2] : List Byte).length ≠ 1 := by decide

theorem witness_DefinePollInstallsDefinition :
    Admits running 1 ∧ running.op ≠ .init ∧
    ¬ ((5 : Byte).toNat < 48 ∧ (4 : Byte).toNat < 32 ∧ (1 ≤ (1 : Byte).toNat ∧ (1 : Byte).toNat ≤ 32) ∧
      (0 : Byte).toNat < 8 ∧ (0 : Byte).toNat < 2 ^ (0 : Byte).toNat ∧ (2 : Byte).toNat < 3 ∧
      ((2 : Byte) = 0x02 → (1 ≤ (0 : Byte).toNat * 256 + (1 : Byte).toNat ∧
        (0 : Byte).toNat * 256 + (1 : Byte).toNat ≤ 32767) ∧ (0 : Byte).toNat < 2 ∧ 2 ≤ (1 : Byte).toNat) ∧
      (0 : Byte).toNat < 2 ∧ ((1 : Byte) = 0x01 ∨ (1 : Byte) = 0x02)) ∧
    127 < 2 ^ (7 : Fin 8).val ∧ (1 : Byte).toNat < 2 ∧ PollState.paused ≠ .free ∧
    1 ≤ (0x7F : Byte).toNat * 256 + (0xFF : Byte).toNat ∧ (0x7F : Byte).toNat * 256 + (0xFF : Byte).toNat ≤ 32767 := by
  decide +kernel

theorem witness_DeletePauseAndResumePoll :
    Admits running 1 ∧ running.op ≠ .init ∧ (running.poll 0).state = .free ∧ (running.poll 5).state ≠ .free := by
  decide +kernel

theorem witness_SetLaneStoresSettings :
    Admits fitted 1 ∧ fitted.op = .standby ∧
    ¬ ((3 : Byte).toNat < 4 ∧ (1 : Byte).toNat < 2 ∧
      (0 : Byte).toNat * 256 + (101 : Byte).toNat ∈ [100, 400, 1000] ∧ 1 ≤ (1 : Byte).toNat ∧
      10 ≤ (10 : Byte).toNat ∧ (10 : Byte).toNat ≤ 90) ∧
    1 ≤ (1 : Byte).toNat ∧ 10 ≤ (10 : Byte).toNat ∧ (90 : Byte).toNat ≤ 90 := by decide +kernel

/-- Lane 1 with a look owed, changed by `f`. -/
def looking (f : Lane → Lane) : State := onLane1 fun l => f { l with lookOwed := true }

/-- Lane 1 with the heads of the three lower tiers waiting, line 2 PENDING, and the record slots all used. -/
def noSlot : State :=
  { (looking fun l => { l with alertTier := [2], workList := [5], jobs := [job88] }).setLine 2
      { line2 with state := .pending } with records := List.replicate 48 plainRecord }

/-- Lane 1 with a WRITE job behind reads, and no block free. -/
def noBlock : State :=
  { looking (fun l => { l with workList := [5], jobs := [writeJob] }) with pool := ⟨0, 0⟩ }

/-- Lane 1 with reads at the heads of the three lower tiers, the slots free and no block free. -/
def readsOnly : State :=
  { (looking fun l => { l with alertTier := [2], workList := [5], jobs := [job88] }).setLine 2
      { line2 with state := .pending } with pool := ⟨0, 0⟩ }

theorem witness_LookFindsNothingToStart :
    (running.lane 1).lookOwed = false ∧ ((looking id).lane 1).state = .idle ∧ (looking id).op = .running ∧
    ((looking id).lane 1).lookOwed = true ∧ ((looking id).lane 1).probeTier = [] ∧
    AlertTierPassed (looking id) 1 ∧ ScheduleTierPassed (looking id) 1 ∧ JobTierPassed (looking id) 1 := by
  decide +kernel

/-- The hypotheses with every head waiting: for a slot, for a block, and for a slot to settle a head of a QUARANTINED
target. -/
theorem witness_LookFindsNothingToStart_waiting :
    ∀ s ∈ [noSlot, readsOnly, noSlot.setTarget 7 { target7 with state := .quarantined, failures := 3 }],
      (s.lane 1).state = .idle ∧ s.op = .running ∧ (s.lane 1).lookOwed = true ∧ (s.lane 1).probeTier = [] ∧
      (s.lane 1).alertTier ≠ [] ∧ (s.lane 1).workList ≠ [] ∧ (s.lane 1).jobs ≠ [] ∧
      (s.lane 1).closed = ⟨false, false, false, false⟩ ∧
      AlertTierPassed s 1 ∧ ScheduleTierPassed s 1 ∧ JobTierPassed s 1 := by decide +kernel

/-- Lane 1 with R at just the cost of its heads: a probe of target 4, the read of line 2, poll 5 and job 88. -/
def justEnough (probes : List (Fin 32)) (alerts : List (Fin 8)) (polls : List (Fin 48)) (jobs : List Job) (r : Nat) :
    State :=
  looking fun l => { l with probeTier := probes, alertTier := alerts, workList := polls, jobs := jobs, remaining := r }

theorem witness_LookStartsProbeOrAlertRead :
    ((justEnough [4] [2] [5] [job88] 2).lane 1).state = .idle ∧ (justEnough [4] [2] [5] [job88] 2).op = .running ∧
    ((justEnough [4] [2] [5] [job88] 2).lane 1).lookOwed = true ∧
    ((justEnough [4] [2] [5] [job88] 2).lane 1).closed.probe = false ∧
    ((justEnough [4] [2] [5] [job88] 2).lane 1).probeTier = 4 :: [] ∧
    2 ≤ ((justEnough [4] [2] [5] [job88] 2).lane 1).remaining ∧
    ((justEnough [] [2] [5] [job88] 7).lane 1).state = .idle ∧ (justEnough [] [2] [5] [job88] 7).op = .running ∧
    ((justEnough [] [2] [5] [job88] 7).lane 1).lookOwed = true ∧
    ((justEnough [] [2] [5] [job88] 7).lane 1).probeTier = [] ∧
    ((justEnough [] [2] [5] [job88] 7).lane 1).closed.alert = false ∧
    ((justEnough [] [2] [5] [job88] 7).lane 1).alertTier = 2 :: [] ∧
    ((justEnough [] [2] [5] [job88] 7).target 4).state ≠ .quarantined ∧ ((running.line 2).boundPoll = 21) ∧
    costOf .read (running.target 4).width.val (running.poll 21).defn.byteCount ≤
      ((justEnough [] [2] [5] [job88] 7).lane 1).remaining ∧
    (justEnough [] [2] [5] [job88] 7).records.length + (justEnough [] [2] [5] [job88] 7).reservations < 48 ∧
    1 ≤ (justEnough [] [2] [5] [job88] 7).pool.free := by decide +kernel

theorem witness_LookStartsPollOrJob :
    ((justEnough [] [] [5] [job88] 7).lane 1).lookOwed = true ∧
    ((justEnough [] [] [5] [job88] 7).lane 1).state = .idle ∧ (justEnough [] [] [5] [job88] 7).op = .running ∧
    ((justEnough [] [] [5] [job88] 7).lane 1).probeTier = [] ∧
    AlertTierPassed (justEnough [] [] [5] [job88] 7) 1 ∧
    ((justEnough [] [] [5] [job88] 7).lane 1).closed.schedule = false ∧
    ((justEnough [] [] [5] [job88] 7).lane 1).workList = 5 :: [] ∧
    ((justEnough [] [] [5] [job88] 7).target 4).state ≠ .quarantined ∧
    costOf .read (running.target 4).width.val (running.poll 5).defn.byteCount ≤
      ((justEnough [] [] [5] [job88] 7).lane 1).remaining ∧
    AlertTierPassed (justEnough [] [] [] [job88] 37) 1 ∧ ScheduleTierPassed (justEnough [] [] [] [job88] 37) 1 ∧
    ((justEnough [] [] [] [job88] 37).lane 1).closed.job = false ∧
    ((justEnough [] [] [] [job88] 37).lane 1).jobs = job88 :: [] ∧
    costOf job88.kind (running.target 4).width.val job88.byteCount ≤
      ((justEnough [] [] [] [job88] 37).lane 1).remaining ∧
    (justEnough [] [] [] [job88] 37).records.length + (justEnough [] [] [] [job88] 37).reservations < 48 ∧
    1 ≤ (justEnough [] [] [] [job88] 37).pool.free := by decide +kernel

/-- A WRITE job behind reads that wait for a block, and a poll behind an ALERT tier that is closed. -/
theorem witness_LookStartsPollOrJob_past_waiting_heads :
    (noBlock.lane 1).state = .idle ∧ noBlock.op = .running ∧ (noBlock.lane 1).lookOwed = true ∧
    (noBlock.lane 1).probeTier = [] ∧ AlertTierPassed noBlock 1 ∧ ScheduleTierPassed noBlock 1 ∧
    (noBlock.lane 1).workList ≠ [] ∧ (noBlock.lane 1).jobs = writeJob :: [] ∧ (noBlock.lane 1).closed.job = false ∧
    (noBlock.target writeJob.target).state ≠ .quarantined ∧
    noBlock.records.length + noBlock.reservations < 48 ∧ noBlock.pool.free = 0 ∧ writeJob.kind ≠ .read ∧
    costOf writeJob.kind (noBlock.target writeJob.target).width.val writeJob.byteCount ≤
      (noBlock.lane 1).remaining := by decide +kernel

theorem witness_LookClosesTier :
    ((justEnough [4] [2] [5] [job88] 1).lane 1).closed.probe = false ∧
    ((justEnough [4] [2] [5] [job88] 1).lane 1).remaining < 2 ∧
    ((justEnough [] [2] [5] [job88] 6).lane 1).probeTier = [] ∧
    ((justEnough [] [2] [5] [job88] 6).lane 1).remaining <
      costOf .read (running.target 4).width.val (running.poll 21).defn.byteCount ∧
    AlertTierPassed (justEnough [] [] [5] [job88] 6) 1 ∧
    ((justEnough [] [] [5] [job88] 6).lane 1).remaining <
      costOf .read (running.target 4).width.val (running.poll 5).defn.byteCount ∧
    AlertTierPassed (justEnough [] [] [] [job88] 36) 1 ∧ ScheduleTierPassed (justEnough [] [] [] [job88] 36) 1 ∧
    ((justEnough [] [] [] [job88] 36).lane 1).remaining <
      costOf job88.kind (running.target 4).width.val job88.byteCount ∧
    ((justEnough [] [] [] [job88] 36).lane 1).state = .idle ∧ (justEnough [] [] [] [job88] 36).op = .running ∧
    ((justEnough [] [] [] [job88] 36).lane 1).lookOwed = true ∧
    ((justEnough [] [] [] [job88] 36).target job88.target).state ≠ .quarantined := by decide +kernel

/-- The same heads, target 4 QUARANTINED. -/
def settling (alerts : List (Fin 8)) (polls : List (Fin 48)) (jobs : List Job) : State :=
  (justEnough [] alerts polls jobs 0).setTarget 4 { target4 with state := .quarantined, failures := 3 }

theorem witness_LookSettlesQuarantinedHeads :
    ((settling [2] [5] [job88]).lane 1).state = .idle ∧ (settling [2] [5] [job88]).op = .running ∧
    ((settling [2] [5] [job88]).lane 1).lookOwed = true ∧ ((settling [2] [5] [job88]).lane 1).probeTier = [] ∧
    ((settling [2] [5] [job88]).lane 1).alertTier = 2 :: [] ∧ ((settling [2] [5] [job88]).lane 1).closed.alert = false ∧
    ((settling [2] [5] [job88]).target 4).state = .quarantined ∧ (running.poll 21).defn.target = 4 ∧
    (settling [2] [5] [job88]).records.length + (settling [2] [5] [job88]).reservations < 48 ∧
    AlertTierPassed (settling [] [5] [job88]) 1 ∧ ((settling [] [5] [job88]).lane 1).workList = 5 :: [] ∧
    ((settling [] [5] [job88]).lane 1).closed.schedule = false ∧ (running.poll 5).defn.target = 4 ∧
    AlertTierPassed (settling [] [] [job88]) 1 ∧
    ScheduleTierPassed (settling [] [] [job88]) 1 ∧ ((settling [] [] [job88]).lane 1).jobs = job88 :: [] ∧
    ((settling [] [] [job88]).lane 1).closed.job = false ∧
    (settling [] [] [job88]).records.length + (settling [] [] [job88]).reservations < 48 := by decide +kernel

theorem witness_AttemptsEnd :
    (running.lane 1).state ≠ .busy ∧ ((busyWith pollRun).lane 1).txn = some pollRun ∧
    ((busyWith pollRun).lane 1).state = .busy ∧ ([1, 2] : List Byte).length = pollRun.byteCount ∧ pollRun.op = .read ∧
    0 < writtenCount pollRun.segments ∧ writtenCount pollRun.segments = 1 + 0 ∧
    pollRun.attempt - 1 < (running.target 4).retryLimit.val ∧ pollRun.cost ≤ ((busyWith pollRun).lane 1).remaining := by
  decide +kernel

/-- `SpaceInv`, decidably. -/
@[reducible] def spaceDecidable (s : State) : Decidable (SpaceInv s) := by
  unfold SpaceInv Lane.Sound Transaction.Sound
  have (l : Lane) : Decidable (match l.txn with
      | some x => (match x.work with
          | .poll _ | .alert _ => x.op = .read
          | .job j => x.op = j.kind ∧ (j.data.isSome = true → j.kind = .write)
          | .probe => x.op = .probe) ∧ l.reservation = reservationFor x.work x.op
      | none => l.reservation = .none) := by
    split
    · split <;> infer_instance
    · infer_instance
  infer_instance

/-- Lane 1 BUSY with the revival probe, which holds no Reservation. -/
def probing : State :=
  onLane1 fun l => { l with state := .busy, remaining := 398, txn := some probeRun }

/-- The ends of a poll, an alert read, a READ job and a revival probe, each holding its Reservation. -/
theorem witness_EndFreesLane :
    (∀ x ∈ [pollRun, alertRun, jobRun], ((busyWith x).lane 1).txn = some x) ∧ (probing.lane 1).txn = some probeRun ∧
    (0 : Fin 4) ≠ 1 := by decide +kernel

theorem witness_EndFreesLane_reservations :
    SpaceInv (busyWith pollRun) ∧ SpaceInv (busyWith alertRun) ∧ SpaceInv (busyWith jobRun) ∧ SpaceInv probing :=
  ⟨holds (spaceDecidable _) (by decide +kernel), holds (spaceDecidable _) (by decide +kernel),
    holds (spaceDecidable _) (by decide +kernel), holds (spaceDecidable _) (by decide +kernel)⟩

/-- The end of an alert read with Follow-up set leaves the line in the ALERT tier of its lane (R85), and a lane that is
IDLE looks for work when another frees its block (R43, R110). -/
theorem test_stretchTimeout_reaches_lanes :
    ((after (.stretchTimeout 1)
      ((busyWith alertRun).setLine 2 { line2 with state := .running, followUp := true })).lane 1).alertTier = [2] ∧
    ((after (.stretchTimeout 1) (busyWith pollRun)).lane 0).lookOwed = true := by decide +kernel

/-- Poll 5 in keep-latest mode, linked to its record that waits at the head. -/
def linked : State :=
  { (busyWith pollRun).setPoll 5
      { poll5 with link := some 0, defn := { poll5.defn with keepLatest := true } } with
    records := [⟨.poll 5 1 0, 4, 16, .ok, some [1, 2]⟩], pool := ⟨62, 62⟩ }

theorem witness_PollOutcomeReported :
    ((busyWith pollRun).lane 1).txn = some pollRun ∧ pollRun.work = .poll 5 ∧
    ((busyWith pollRun).lane 1).reservation = .slotAndBlock ∧ pollRun.discarded = false ∧
    ({ pollRun with discarded := true } : Transaction).discarded = true ∧ RecordStatus.aborted = .aborted ∧
    ((busyWith pollRun).poll 5).defn.keepLatest = false ∧ (linked.poll 5).link = some 0 ∧
    (linked.poll 5).defn.keepLatest = true ∧ (linked.lane 1).reservation = .slotAndBlock ∧
    (linked.lane 1).txn = some pollRun ∧ linked.records[0]? = some ⟨.poll 5 1 0, 4, 16, .ok, some [1, 2]⟩ ∧
    ((busyWith pollRun).poll 5).reports ⟨.ok, [1, 3], 0⟩ = true ∧
    ((busyWith pollRun).poll 5).reports ⟨.ok, [1, 2], 0⟩ = false := by decide +kernel

theorem witness_DeltaComparesSignedValues :
    ({ poll5 with defn := { poll5.defn with mode := .delta, threshold := 100 } } : Poll).defn.mode = .delta ∧
    poll5.snapshot.valid = true ∧ poll5.snapshot.lastStatus = .ok ∧
    ([0x80, 0x00] : List Byte) = 0x80 :: 0x00 :: [] ∧ ([0x7F, 0xFF] : List Byte) = 0x7F :: 0xFF :: [] := by
  decide +kernel

theorem witness_AlertReadJobAndProbeEnd :
    ((busyWith alertRun).lane 1).txn = some alertRun ∧ alertRun.work = .alert 2 ∧
    ((busyWith jobRun).lane 1).txn = some jobRun ∧ jobRun.work = .job job88 ∧
    (probing.lane 1).txn = some probeRun ∧ probeRun.work = .probe := by decide +kernel

theorem witness_RecoveryEnds :
    (running.lane 1).state ≠ .recovering ∧
    ((onLane1 fun l => { l with state := .recovering, waitingResets := [41] }).lane 1).state = .recovering ∧
    0 ≤ 12 ∧ 12 ≤ 12 := by decide +kernel

theorem witness_SubmitChecksAndQueuesJob :
    Admits running 9 ∧ running.op = .running ∧
    ¬ ((31 : Byte).toNat < 32 ∧ (0 : Byte).toNat < 3 ∧
      ((0 : Byte) = 0x00 → 1 ≤ (33 : Byte).toNat ∧ (33 : Byte).toNat ≤ 32) ∧ ((0 : Byte) = 0x01 → (33 : Byte).toNat ≤ 32)) ∧
    ([] : List Byte).length = (if Operation.read = .write then (32 : Byte).toNat else 0) ∧ 1 ≤ (32 : Byte).toNat ∧
    (32 : Byte).toNat ≤ 32 ∧ (running.target 0).state = .free ∧ (running.target 4).state ≠ .free ∧
    (0x00FF : Word16).toNat < 256 ^ (running.target 4).width.val ∧
    256 ^ (running.target 4).width.val ≤ (0x0100 : Word16).toNat ∧ (running.target 4).state ≠ .quarantined ∧
    (running.lane 1).state ≠ .off ∧ (running.lane 1).state ≠ .faulted ∧
    costOf .read (running.target 4).width.val 32 ≤ (running.lane 1).capacity ∧ (running.lane 1).jobs.length < 8 ∧
    (1 : Nat) ∉ heldNumbers running := by decide +kernel

theorem witness_SubmitChecksAndQueuesJob_number :
    JobInv running ∧ ∀ m, 1 ≤ m → m ≤ 65535 → m ∉ heldNumbers running →
      (1 + 65535 - running.nextJob) % 65535 ≤ (m + 65535 - running.nextJob) % 65535 := by
  refine ⟨holds (jobDecidable _) (by decide +kernel), fun m _ _ _ => ?_⟩
  have h : (1 + 65535 - running.nextJob) % 65535 = 0 := by decide +kernel
  rw [h]
  exact Nat.zero_le _

/-- Lane 1 with two queued jobs. -/
def queued : State := { onLane1 (fun l => { l with jobs := [job88, writeJob] }) with pool := ⟨63, 63⟩ }

theorem witness_CancelRemovesJob :
    Admits queued 60 ∧ queued.op ≠ .init ∧ 6 ≤ 65535 ∧ (65535 : Nat) ∉ heldNumbers queued ∧
    (queued.lane 1).jobs = [job88] ++ writeJob :: [] ∧ writeJob.number = 6 ∧
    queued.records.length + queued.reservations < 48 ∧
    48 ≤ ({ queued with records := List.replicate 48 plainRecord } : State).records.length +
      ({ queued with records := List.replicate 48 plainRecord } : State).reservations ∧
    (∃ j ∈ ((busyWith jobRun).lane 1).runningJob, j.number = 88) := by decide +kernel

theorem witness_CancelRemovesJob_numbers : JobInv queued ∧ JobInv (busyWith jobRun) :=
  ⟨holds (jobDecidable _) (by decide +kernel), holds (jobDecidable _) (by decide +kernel)⟩

theorem witness_FlushAndDrainCancelJobs :
    Admits queued 60 ∧ queued.op ≠ .init ∧
    (queued.lane 1).jobs.length ≤ 48 - (queued.records.length + queued.reservations) ∧
    48 - (({ queued with records := List.replicate 47 plainRecord } : State).records.length +
      ({ queued with records := List.replicate 47 plainRecord } : State).reservations) < (queued.lane 1).jobs.length ∧
    queued.op ≠ .draining ∧ draining.op = .draining ∧
    (draining.lane 1).jobs = { writeJob with cancelling := true } :: [] ∧
    draining.records.length + draining.reservations < 48 := by decide +kernel

theorem witness_SetAlertArmsOrClosesLine :
    Admits running 1 ∧ running.op ≠ .init ∧
    ¬ ((7 : Byte).toNat < 8 ∧ (1 : Byte).toNat < 2 ∧ (1 : Byte).toNat < 2 ∧ (16 : Byte).toNat < 16 ∧
      (47 : Byte).toNat < 48) ∧ 8 ≤ (8 : Byte).toNat := by decide +kernel

theorem witness_LevelChangesTriggerLines :
    fitted.op ≠ .running ∧ levelActive.op = .running ∧ levelActive.evaluationOwed = true := by decide +kernel

theorem witness_PingEchoesBody :
    (List.replicate 248 (0 : Byte)).length = 248 ∧ (List.replicate 247 (0 : Byte)).length ≤ 247 ∧
    Admits { standby with transmitter := none } 1 ∧ Settled { standby with transmitter := none } ∧
    ({ standby with transmitter := none } : State).transmitter = none := by decide +kernel

theorem witness_PostingMergesJoinsOrDrops :
    ({ standby with notices := [⟨.hostErrors .zero, 255⟩] } : State).notices = [] ++ ⟨.hostErrors .zero, 255⟩ :: [] ∧
    (NoticeBody.hostErrors .zero).key = (NoticeBody.hostErrors ⟨1, 0, 0, 0⟩).key ∧
    (∀ m ∈ ({ standby with notices := [⟨.hostErrors .zero, 255⟩] } : State).notices,
      m.body.key ≠ (NoticeBody.laneState 0 .faulted .reset).key) := by decide +kernel

theorem witness_CostCountsSegments :
    (Operation.write = .write → ([1, 2] : List Byte).length = 2) ∧ (Operation.write = .write → ([] : List Byte).length = 0) ∧
    (0x78 : Byte) = BitVec.ofNat 8 (2 * target4.busAddress.toNat) ∧
    (0x79 : Byte) = BitVec.ofNat 8 (2 * target4.busAddress.toNat + 1) ∧
    (0x78 : Byte) :: [0, 1] = [] ++ 0x78 :: [0, 1] ∧ (0x78 : Byte) :: [0, 1] = [0x78, 0] ++ 1 :: [] ∧
    ([5] : List Byte).length = 1 ∧ ([] : List Byte).length = 0 := by decide

/-- A WRITE whose register byte is not acknowledged: START, the address slot, the register slot with SDA high at its
acknowledge bit, STOP; the event says that no byte was acknowledged before it (R51). -/
theorem test_nack_then_stop :
    (Course.marks [⟨0x78, [0, 1], 0⟩] [] (.carried (some 1))).drop 10 =
      List.replicate 8 (.bit .part false) ++ [.bit .target true, .stop] ∧
    Course.row 1 [⟨0x78, [0, 1], 0⟩] [] (.carried (some 1)) = some (.transactionEnd 1 (.notAcknowledged 0)) := by
  decide +kernel

/-- SDA read low (R53): in the first data bit of 78h, which the part drives low, and in the target's acknowledge bit the
attempt goes on; in the second data bit, which the part releases, it is cut short with both lines released. -/
theorem test_arbitration_check :
    (∀ count ∈ [1, 9], Course.row 1 [⟨0x78, [], 0⟩] [] (.cut .arbLost none count) =
      some (.transactionEnd 1 (.completed []))) ∧
    Course.marks [⟨0x78, [], 0⟩] [] (.cut .arbLost none 2) = [.start, .bit .part false, .release] ∧
    Course.row 1 [⟨0x78, [], 0⟩] [] (.cut .arbLost none 2) = some (.arbLost 1) := by decide +kernel

/-- The clauses of `CostCountsSegments` on a disturbed attempt: one mark in which each cause strikes, and marks in which SCL
held low (START), SDA low (the acknowledge of the target) and nothing (past the STOP) cut it short. -/
theorem witness_CostCountsSegments_cut :
    (Course.marks [⟨0x78, [], 0⟩] [] (.carried none))[2]? = some (.bit .part true) ∧
    (Course.marks [⟨0x78, [], 0⟩] [] (.carried none))[10]? = some .stop ∧
    (Course.marks [⟨0x78, [], 0⟩] [] (.carried none))[0]? = some .start ∧
    (Course.marks [⟨0x78, [], 0⟩] [] (.carried none))[9]? = some (.bit .target false) ∧
    (Course.marks [⟨0x78, [], 0⟩] [] (.carried none))[11]? = none := by decide +kernel

/-- SDA is freed by the third pulse: three pulses, then STOP (R57). -/
theorem test_recovery_course :
    recoveryCourse 12 [.sda false, .sda false, .sda false, .sda true, .sda true] = ([.pulse, .pulse, .pulse, .stop], .busFree) :=
  by decide

/-! ### Witnesses: the invariants hold in a busy part -/

/-- The part in RUNNING: lane 1 BUSY with linked poll 5, a WRITE job queued behind it, line 2 PENDING, target 7
QUARANTINED with its probe pending on lane 0. -/
def busyPart : State :=
  (((linked.setLane 1 { linked.lane 1 with jobs := [writeJob], alertTier := [2] }).setLine 2
    { line2 with state := .pending }).setTarget 7 { target7 with state := .quarantined, failures := 3 }).setLane 0
      { Lane.afterReset with state := .idle, probeTier := [7], lookOwed := true } |> fun s =>
        { s with pool := ⟨61, 61⟩ }

/-- Its next step ends the transaction of lane 1. -/
def stepping : State := { busyPart with pending := [.transactionEnd 1 (.completed [1, 3])] }

theorem witness_steps : ∃ t, step stepping = .next t := ⟨_, rfl⟩

theorem witness_StepKeepsSpaceAccounts : SpaceInv stepping := holds (spaceDecidable _) (by decide +kernel)

theorem witness_StepKeepsTagDiscipline : TagInv { draining with ready := [⟨.command, 0x81, 4, [0]⟩], inFlight := [9, 4] } := by
  unfold TagInv
  decide +kernel

theorem witness_StepKeepsAlertLines : AlertInv stepping := by
  unfold AlertInv Line.Sound
  decide +kernel

theorem witness_StepKeepsTargetHealth : HealthInv stepping := holds (healthDecidable _) (by decide +kernel)

theorem witness_StepKeepsJobs : JobInv stepping := holds (jobDecidable _) (by decide +kernel)

/-- Whether a keep-latest link names the record of its definition. -/
def linkHolds (s : State) (p : Fin 48) : Bool :=
  match (s.poll p).link with
  | none => true
  | some k => (s.poll p).defn.keepLatest &&
      match s.records[k]? with
      | some ⟨.poll q g _, _, _, _, _⟩ => q == p && g == (s.poll p).generation
      | some _ | none => false

theorem linkHolds_sound {s : State} {p : Fin 48} (h : linkHolds s p = true) :
    match (s.poll p).link with
    | none => True
    | some k => (s.poll p).defn.keepLatest = true ∧
        match s.records[k]? with
        | some ⟨.poll q g _, _, _, _, _⟩ => q = p ∧ g = (s.poll p).generation
        | some _ | none => False := by
  unfold linkHolds at h
  generalize (s.poll p).link = link at h ⊢
  cases link with
  | none => trivial
  | some k =>
    simp only [Bool.and_eq_true] at h
    refine ⟨h.1, ?_⟩
    have h2 := h.2
    generalize s.records[k]? = r at h2 ⊢
    rcases r with _ | ⟨source, _, _, _, _⟩
    · exact absurd h2 (by simp)
    · cases source with
      | poll q g n => simpa using h2
      | alert _ _ _ => exact absurd h2 (by simp)
      | job _ _ _ => exact absurd h2 (by simp)

theorem witness_StepKeepsRecordLinks : LinkInv stepping := by
  refine ⟨fun p => linkHolds_sound (by revert p; decide +kernel), fun i => ?_⟩
  have h : i = 0 ∨ i = 1 ∨ i = 2 ∨ i = 3 := by omega
  rcases h with rfl | rfl | rfl | rfl
  · exact trivial
  · exact fun _ => by decide +kernel
  · exact trivial
  · exact trivial

theorem witness_StepKeepsQuietStates : QuietInv stepping ∧ QuietInv standby ∧ QuietInv draining :=
  ⟨holds (quietDecidable _) (by decide +kernel), holds (quietDecidable _) (by decide +kernel),
    holds (quietDecidable _) (by decide +kernel)⟩

theorem witness_StepKeepsSmallInvariants :
    ScheduleInv stepping ∧ BindingInv stepping ∧ NoticeInv stepping ∧ CapacityInv stepping ∧ PortInv stepping ∧
      Settled stepping :=
  ⟨holds (scheduleDecidable _) (by decide +kernel), by unfold BindingInv; decide +kernel,
    by unfold NoticeInv; decide +kernel, by unfold CapacityInv; decide +kernel,
    ⟨⟨rfl, rfl⟩, by decide +kernel⟩, by decide +kernel⟩

end Sys2Proof.Tests
end

/-! PROOF. Rules for the commands of the host: an admitted command's fields, its checks by position in the validation order
of R143, and the entries of a table in the order of their numbers. -/

namespace Sys2Proof.Machine

/-! ### The state of admission -/

section
variable (tag : Byte) (s : State)

@[simp] theorem admitted_op : (admitted tag s).op = s.op := rfl
@[simp] theorem admitted_target (t : Fin 32) : (admitted tag s).target t = s.target t := rfl
@[simp] theorem admitted_poll (p : Fin 48) : (admitted tag s).poll p = s.poll p := rfl
@[simp] theorem admitted_lane (i : Fin 4) : (admitted tag s).lane i = s.lane i := rfl
@[simp] theorem admitted_line (l : Fin 8) : (admitted tag s).line l = s.line l := rfl

end

/-! ### The checks and the effect of a command (R142, R143) -/

/-- Two happenings with the same effects before the arbiter looks answer the same state (R136). -/
theorem next_arbitrate_congr {u v : State} (h : u = v) :
    (.next (arbitrate u) : Host.Outcome State Fault Refusal) = .next (arbitrate v) := h ▸ rfl

/-- A command that fails a check acts on the state of its admission as a denial. -/
theorem carryOut_error {α : Type} (tag kind : Byte) (status : ReplyStatus) (effect : α → State → State) (s : State) :
    carryOut tag kind (.error status) effect (admitted tag s) = denied tag (replyKind kind) status.code s := rfl

/-- A check of a command that has passed the checks before it. -/
theorem carryOut_check {α : Type} (tag kind : Byte) (c : Prop) [Decidable c] (status : ReplyStatus) (later : Checked α)
    (effect : α → State → State) (s : State) :
    carryOut tag kind (if c then .error status else later) effect (admitted tag s) =
      if c then denied tag (replyKind kind) status.code s else carryOut tag kind later effect (admitted tag s) := by
  split <;> rfl

theorem carryOut_ok {α : Type} (tag kind : Byte) (a : α) (effect : α → State → State) (s : State) :
    carryOut tag kind (.ok a) effect s = effect a s := rfl

theorem OpState.legalAlways_of_ne_init {op : OpState} (h : op ≠ .init) : op.legalAlways = true := by
  simp [OpState.legalAlways, h]

/-! ### Fields of command bodies (R159) -/

theorem byte_toNat {n : Nat} (h : n < 256) : (byte n).toNat = n := by
  simp [byte, Nat.mod_eq_of_lt h]

theorem indexField_byte {n : Nat} (hn : n ≤ 256) (i : Fin n) : indexField n (byte i.val) = some i := by
  have hv : (byte i.val).toNat = i.val := byte_toNat (by omega)
  simp [indexField, hv]

theorem indexField_eq_none {n : Nat} {b : Byte} : indexField n b = none ↔ n ≤ b.toNat := by
  simp [indexField]

theorem lt_of_indexField {n : Nat} {b : Byte} {i : Fin n} (h : indexField n b = some i) : b.toNat < n := by
  by_contra hb
  simp [indexField_eq_none.2 (Nat.le_of_not_lt hb)] at h

/-- The byte of a Bus Address in range is read back (R3). -/
theorem busAddressField_setWidth {address : BitVec 7} (hlo : 0x08 ≤ address.toNat) (hhi : address.toNat ≤ 0x77) :
    busAddressField (address.setWidth 8) = some address := by
  have hv : (address.setWidth 8).toNat = address.toNat := by simp; omega
  simp [busAddressField, hv, hlo, hhi]

theorem range_of_busAddressField {b : Byte} {address : BitVec 7} (h : busAddressField b = some address) :
    0x08 ≤ b.toNat ∧ b.toNat ≤ 0x77 := by
  by_contra hb
  simp [busAddressField, hb] at h

/-! ### The BODY of a command with one number (R143 steps 1 to 3) -/

theorem checkIndex_byte {n : Nat} (hn : n ≤ 256) (i : Fin n) {s : State} (h : s.op ≠ .init) :
    checkIndex n [byte i.val] s = .ok i := by
  simp [checkIndex, OpState.legalAlways_of_ne_init h, indexField_byte hn]

theorem checkIndex_out_of_range {n : Nat} {b : Byte} (hb : n ≤ b.toNat) {s : State} (h : s.op ≠ .init) :
    checkIndex n [b] s = .error .badValue := by
  simp [checkIndex, OpState.legalAlways_of_ne_init h, indexField_eq_none.2 hb]

/-! ### The entries of a table in the order of their numbers -/

theorem Table.toList_eq_map_finRange {α : Type} {n : Nat} (t : Table α n) : t.toList = (List.finRange n).map t.get := by
  rw [Table.toList_eq_ofFn, List.ofFn_eq_map]

theorem Table.any_toList {α : Type} {n : Nat} (t : Table α n) (p : α → Bool) :
    t.toList.any p = true ↔ ∃ i, p (t.get i) = true := by
  rw [Table.toList_eq_map_finRange]
  simp

theorem State.lanes_toList (s : State) : s.lanes.toList = (List.finRange 4).map s.lane :=
  Table.toList_eq_map_finRange s.lanes

theorem State.polls_toList (s : State) : s.polls.toList = (List.finRange 48).map s.poll :=
  Table.toList_eq_map_finRange s.polls

end Sys2Proof.Machine

/-! PROOF. The Target Table: what replacing an entry posts, what refers to an entry (R5, R12), the counters, Failure Count,
State and countdown of an entry after an outcome (R8, R95 to R97, R100), and the statements about BIND_TARGET,
UNBIND_TARGET, READ_TARGET and the end of a transaction. -/

namespace Sys2Proof.Machine

/-! ### Replacing an entry (R104) -/

theorem changeTarget_of_state_eq {t : Fin 32} {x : Target} {s : State} (h : (s.target t).state = x.state) :
    changeTarget t x s = s.setTarget t x := if_pos h

theorem changeTarget_of_state_ne {t : Fin 32} {x : Target} {s : State} (h : (s.target t).state ≠ x.state) :
    changeTarget t x s = post (targetNotice t x) (s.setTarget t x) := if_neg h

/-- What a posting makes of the Notice Queue depends on the Notice Queue and the Lost Notices alone (R125). -/
theorem post_notices_congr {s u : State} (b : NoticeBody) (hn : u.notices = s.notices)
    (hl : u.lostNotices = s.lostNotices) :
    (post b u).notices = (post b s).notices ∧ (post b u).lostNotices = (post b s).lostNotices := by
  unfold post
  simp only [hn]
  split
  · exact ⟨rfl, hl⟩
  · split
    · exact ⟨rfl, hl⟩
    · exact ⟨rfl, congrArg count8 hl⟩

/-! ### Revival probes that wait (R12, R43) -/

theorem probePending_iff (s : State) (t : Fin 32) : probePending s t = true ↔ ∃ i, t ∈ (s.lane i).probeTier := by
  unfold probePending
  rw [Table.any_toList]
  simp [State.lane]

/-- A lane that is replaced and then reached by a happening of R43. -/
theorem wakeLane_setLane (i : Fin 4) (l : Lane) (s : State) :
    wakeLane i (s.setLane i l) = s.setLane i (told s.op l) := by
  by_cases h : s.op = .running
  · simp [wakeLane, told, Lane.wake, h]
  · simp [wakeLane, told, h]

theorem removeProbe_eq (t : Fin 32) (s : State) :
    removeProbe t s = { s with
      lanes :=
        if t ∈ (s.lane (s.target t).lane).probeTier then
          s.lanes.set (s.target t).lane (told s.op { s.lane (s.target t).lane with
            probeTier := (s.lane (s.target t).lane).probeTier.filter (· != t) })
        else s.lanes } := by
  unfold removeProbe
  by_cases h : t ∈ (s.lane (s.target t).lane).probeTier
  · simp only [List.contains_iff_mem, h, if_true, wakeLane_setLane]
    rfl
  · simp [h]

/-! ### What refers to an entry (R5, R12) -/

theorem pollRefs_eq (s : State) (t : Fin 32) :
    pollRefs s t =
      (List.finRange 48).countP fun p => (s.poll p).state != .free && (s.poll p).defn.target == t := by
  rw [pollRefs, State.polls_toList, List.countP_map]
  rfl

theorem jobRefs_eq (s : State) (t : Fin 32) :
    jobRefs s t = ((List.finRange 4).map fun i => (s.lane i).jobs.countP fun j => j.target == t).sum := by
  rw [jobRefs, State.lanes_toList, List.map_map]
  rfl

theorem runningOn_eq (s : State) (t : Fin 32) :
    runningOn s t = (List.finRange 4).findSome? fun i => (s.lane i).txn.filter fun y => y.target == t := by
  rw [runningOn, State.lanes_toList, List.filterMap_map, ← List.head?_filter, List.filter_filterMap, List.head?_filterMap]
  rfl

theorem pollRefs_ne_zero (s : State) (t : Fin 32) :
    pollRefs s t ≠ 0 ↔ ∃ p, (s.poll p).state ≠ .free ∧ (s.poll p).defn.target = t := by
  rw [pollRefs_eq, ← Nat.pos_iff_ne_zero, List.countP_pos_iff]
  simp

theorem jobRefs_ne_zero (s : State) (t : Fin 32) :
    jobRefs s t ≠ 0 ↔ ∃ i, ∃ j ∈ (s.lane i).jobs, j.target = t := by
  rw [jobRefs_eq, ne_eq, List.sum_eq_zero_iff]
  simp

theorem runningOn_isSome (s : State) (t : Fin 32) :
    (runningOn s t).isSome = true ↔ ∃ i, ∃ x ∈ (s.lane i).txn, x.target = t := by
  rw [runningOn_eq, List.findSome?_isSome_iff]
  simp [Option.any_eq_true]

/-- The fourth check of UNBIND_TARGET (R5). -/
theorem targetInUse_iff (s : State) (t : Fin 32) :
    targetInUse s t = true ↔
      (∃ p, (s.poll p).state ≠ .free ∧ (s.poll p).defn.target = t) ∨
        (∃ i, ∃ j ∈ (s.lane i).jobs, j.target = t) ∨ ∃ i, ∃ x ∈ (s.lane i).txn, x.target = t := by
  rw [← pollRefs_ne_zero, ← jobRefs_ne_zero, ← runningOn_isSome]
  simp [targetInUse, or_assoc]

/-- The fifth check of BIND_TARGET (R3). -/
theorem addressTaken_iff (s : State) (lane : Fin 4) (address : BitVec 7) :
    addressTaken s lane address = true ↔
      ∃ u, (s.target u).state ≠ .free ∧ (s.target u).lane = lane ∧ (s.target u).busAddress = address := by
  unfold addressTaken
  rw [Table.any_toList]
  simp [State.target, and_assoc]

/-! ### BIND_TARGET (R3, R4) -/

theorem checkBindTarget_out_of_range {t lane address width retry threshold probe : Byte}
    (h : ¬ (t.toNat < 32 ∧ lane.toNat < 4 ∧ (0x08 ≤ address.toNat ∧ address.toNat ≤ 0x77) ∧ width.toNat < 3 ∧
      retry.toNat < 4 ∧ threshold.toNat < 16 ∧ probe.toNat < 8)) {s : State} (hop : s.op ≠ .init) :
    checkBindTarget [t, lane, address, width, retry, threshold, probe] s = .error .badValue := by
  simp only [checkBindTarget, OpState.legalAlways_of_ne_init hop, if_true]
  split
  case h_1 ht hl ha hw hr hq hk =>
    exact absurd ⟨lt_of_indexField ht, lt_of_indexField hl, range_of_busAddressField ha, lt_of_indexField hw,
      lt_of_indexField hr, lt_of_indexField hq, lt_of_indexField hk⟩ h
  case h_2 => rfl

theorem checkBindTarget_in_range (t : Fin 32) (lane : Fin 4) {address : BitVec 7} (width : Fin 3) (retry : Fin 4)
    (threshold : Fin 16) (probe : Fin 8) (hlo : 0x08 ≤ address.toNat) (hhi : address.toNat ≤ 0x77) {s : State}
    (hop : s.op ≠ .init) :
    checkBindTarget [byte t.val, byte lane.val, address.setWidth 8, byte width.val, byte retry.val, byte threshold.val,
        byte probe.val] s =
      if (s.target t).state ≠ .free then .error .inUse
      else if addressTaken s lane address then .error .conflict
      else .ok (t, boundTarget lane address width retry threshold probe) := by
  simp [checkBindTarget, OpState.legalAlways_of_ne_init hop, indexField_byte, busAddressField_setWidth hlo hhi]

/-- An accepted BIND_TARGET, the entry being FREE (R4, R104). -/
theorem bindTarget_of_free {t : Fin 32} {s : State} (h : (s.target t).state = .free) (tag : Byte) (lane : Fin 4)
    (address : BitVec 7) (width : Fin 3) (retry : Fin 4) (threshold : Fin 16) (probe : Fin 8) :
    bindTarget tag t (boundTarget lane address width retry threshold probe) s =
      replied tag 0x8F [0x00, byte t.val] (post (.targetState t .online 0)
        (s.setTarget t (boundTarget lane address width retry threshold probe))) := by
  rw [bindTarget, changeTarget_of_state_ne (by simp [h, boundTarget]), answer_eq_replied]
  rfl

theorem exec_bindTarget {s : State} {tag : Byte} (h : Admits s tag) (body : List Byte) :
    exec (.bindTarget tag body) s = .next (arbitrate (runBindTarget tag body (admitted tag s))) := hostCommand_admitted h

/-- Settles O17, by the checks of R3 in their order. -/
theorem bindTargetFillsEntry : Obligations.BindTargetFillsEntry := by
  intro s tag hadm hop
  have hop' : (admitted tag s).op ≠ .init := hop
  refine ⟨fun t lane address width retry threshold probe h => ?_,
    fun t lane address width retry threshold probe hlo hhi => ?_⟩
  · rw [exec_bindTarget hadm, runBindTarget, checkBindTarget_out_of_range h hop', carryOut_error]
    rfl
  · rw [exec_bindTarget hadm, runBindTarget, checkBindTarget_in_range t lane width retry threshold probe hlo hhi hop',
      carryOut_check, carryOut_check, carryOut_ok]
    refine next_arbitrate_congr (ite_congr rfl (fun _ => rfl) fun hbound =>
      ite_congr (propext (addressTaken_iff s lane address)) (fun _ => rfl) fun _ => ?_)
    exact bindTarget_of_free (s := admitted tag s) (not_not.1 hbound) ..

/-! ### UNBIND_TARGET (R5, R6) -/

theorem checkUnbindTarget_byte (t : Fin 32) {s : State} (hop : s.op ≠ .init) :
    checkUnbindTarget [byte t.val] s =
      if (s.target t).state = .free then .error .noEntry
      else if targetInUse s t then .error .inUse
      else .ok t := by
  rw [checkUnbindTarget, checkIndex_byte (by decide) t hop]

theorem checkUnbindTarget_out_of_range {b : Byte} (hb : 32 ≤ b.toNat) {s : State} (hop : s.op ≠ .init) :
    checkUnbindTarget [b] s = .error .badValue := by
  rw [checkUnbindTarget, checkIndex_out_of_range hb hop]

/-- An accepted UNBIND_TARGET, the entry being bound (R6, R104). -/
theorem unbindTarget_of_bound {t : Fin 32} {s : State} (h : (s.target t).state ≠ .free) (tag : Byte) :
    unbindTarget tag t s =
      replied tag 0x90 [0x00, byte t.val] (post (.targetState t .free 0) ((removeProbe t s).setTarget t Target.free)) := by
  have hstate : ((removeProbe t s).target t).state ≠ Target.free.state := by
    rw [removeProbe_frame]
    exact h
  rw [unbindTarget, changeTarget_of_state_ne hstate, answer_eq_replied]
  rfl

theorem exec_unbindTarget {s : State} {tag : Byte} (h : Admits s tag) (body : List Byte) :
    exec (.unbindTarget tag body) s = .next (arbitrate (runUnbindTarget tag body (admitted tag s))) :=
  hostCommand_admitted h

/-- Settles O18, by the checks of R5 in their order. -/
theorem unbindTargetFreesEntry : Obligations.UnbindTargetFreesEntry := by
  intro s tag hadm hop
  have hop' : (admitted tag s).op ≠ .init := hop
  refine ⟨fun b hb => ?_, fun t => ?_⟩
  · rw [exec_unbindTarget hadm, runUnbindTarget, checkUnbindTarget_out_of_range hb hop', carryOut_error]
    rfl
  · rw [exec_unbindTarget hadm, runUnbindTarget, checkUnbindTarget_byte t hop', carryOut_check, carryOut_check,
      carryOut_ok]
    refine next_arbitrate_congr (ite_congr rfl (fun _ => rfl) fun hbound =>
      ite_congr (propext (targetInUse_iff s t)) (fun _ => rfl) fun _ => ?_)
    rw [unbindTarget_of_bound (s := admitted tag s) hbound, removeProbe_eq]
    rfl

/-! ### READ_TARGET (R11, R12) -/

theorem exec_readTarget {s : State} {tag : Byte} (h : Admits s tag) (body : List Byte) :
    exec (.readTarget tag body) s = .next (arbitrate (runReadTarget tag body (admitted tag s))) :=
  hostCommand_admitted h

theorem flag_probePending (s : State) (t : Fin 32) :
    flag (probePending s t) = if ∃ i, t ∈ (s.lane i).probeTier then 0x01 else 0x00 :=
  ite_congr (propext (probePending_iff s t)) (fun _ => rfl) fun _ => rfl

/-- The reference summary does not look at what admission changes. -/
theorem referenceSummary_admitted (tag : Byte) (s : State) (t : Fin 32) :
    referenceSummary (admitted tag s) t = referenceSummary s t := rfl

/-- Settles O19: the reference summary, counted over the entries in the order of their numbers. -/
theorem readTargetReportsEntry : Obligations.ReadTargetReportsEntry := by
  intro s tag hadm hop
  have hop' : (admitted tag s).op ≠ .init := hop
  refine ⟨fun b hb => ?_, ?_⟩
  · rw [exec_readTarget hadm, runReadTarget, checkIndex_out_of_range hb hop', carryOut_error]
    rfl
  · rintro t _ rfl _ rfl
    rw [exec_readTarget hadm, runReadTarget, checkIndex_byte (by decide) t hop', carryOut_ok, answer_eq_replied]
    simp only [← pollRefs_eq, ← jobRefs_eq, ← runningOn_eq, ← flag_probePending, admitted_target,
      referenceSummary_admitted]
    by_cases hfree : (s.target t).state = .free
    · simp only [referenceSummary, if_pos hfree]
      rfl
    · simp only [referenceSummary, if_neg hfree]
      cases runningOn s t with
      | none => rfl
      | some y => rcases y with ⟨_ | _ | _ | _⟩ <;> rfl

/-! ### An entry after an outcome (R8, R95 to R97, R100) -/

/-- The entry an outcome acts on once its counter and its Failure Count have been updated (R8, R95). -/
def Target.counted (t : Target) (status : RecordStatus) : Target :=
  { t with counts := t.counts.count status, failures := failuresAfter status t.failures }

@[simp] theorem Target.counted_state (t : Target) (status : RecordStatus) : (t.counted status).state = t.state := rfl
@[simp] theorem Target.counted_countdown (t : Target) (status : RecordStatus) :
    (t.counted status).countdown = t.countdown := rfl
@[simp] theorem Target.counted_probeExponent (t : Target) (status : RecordStatus) :
    (t.counted status).probeExponent = t.probeExponent := rfl
@[simp] theorem Target.counted_quarantineEntries (t : Target) (status : RecordStatus) :
    (t.counted status).counts.quarantineEntries = t.counts.quarantineEntries := by
  cases status <;> rfl

theorem Target.afterOutcome_of_quarantined {t : Target} (h : t.state = .quarantined) (isProbe : Bool)
    (status : RecordStatus) :
    t.afterOutcome isProbe status = if isProbe then (t.counted status).probed status else t.counted status := by
  rcases t with ⟨state, _⟩
  obtain rfl : state = .quarantined := h
  rfl

theorem Target.afterOutcome_of_active {t : Target} (hf : t.state ≠ .free) (hq : t.state ≠ .quarantined) (isProbe : Bool)
    (status : RecordStatus) : t.afterOutcome isProbe status = (t.counted status).moved status := by
  rcases t with ⟨state, _⟩
  cases state with
  | free => exact absurd rfl hf
  | quarantined => exact absurd rfl hq
  | online | suspect => rfl

/-- Health moves State, countdown and Quarantine Entries only (R96, R97). -/
theorem Target.moved_frame (t : Target) (status : RecordStatus) :
    t.moved status = { t with
      state := (t.moved status).state
      countdown := (t.moved status).countdown
      counts := { t.counts with quarantineEntries := (t.moved status).counts.quarantineEntries } } := by
  cases status with
  | addrNack | stretchTimeout => unfold Target.moved; dsimp only; split <;> rfl
  | _ => rfl

/-- A revival probe that is acknowledged ends the quarantine, any other starts its countdown again (R100). -/
theorem Target.probed_eq (t : Target) (status : RecordStatus) :
    t.probed status =
      if status = .ok ∨ status = .dataNack then { t with state := .online, countdown := 0 }
      else { t with countdown := countdownOf t.probeExponent } := by
  cases status <;> rfl

theorem Target.afterOutcome_frame {t : Target} (hf : t.state ≠ .free) (isProbe : Bool) (status : RecordStatus) :
    t.afterOutcome isProbe status = { t with
      state := (t.afterOutcome isProbe status).state
      failures := failuresAfter status t.failures
      countdown := (t.afterOutcome isProbe status).countdown
      counts := { t.counts.count status with
        quarantineEntries := (t.afterOutcome isProbe status).counts.quarantineEntries } } := by
  by_cases hq : t.state = .quarantined
  · rw [Target.afterOutcome_of_quarantined hq]
    split
    · rw [Target.probed_eq]
      split <;> rfl
    · rfl
  · rw [Target.afterOutcome_of_active hf hq, Target.moved_frame]
    rfl

/-- The counter of an outcome counts it, the others stay (R8). -/
theorem TargetCounts.count_eq (c : TargetCounts) (status : RecordStatus) :
    c.count status =
      { completionsOk := if status = .ok then count16 c.completionsOk else c.completionsOk
        addrNacks := if status = .addrNack then count16 c.addrNacks else c.addrNacks
        dataNacks := if status = .dataNack then count16 c.dataNacks else c.dataNacks
        stretchTimeouts := if status = .stretchTimeout then count16 c.stretchTimeouts else c.stretchTimeouts
        quarantineEntries := c.quarantineEntries } := by
  cases status <;> rfl

/-- An entry enters QUARANTINED with its countdown started and Quarantine Entries counted, and otherwise keeps both
(R96, R97). -/
theorem Target.moved_quarantine {t : Target} (hq : t.state ≠ .quarantined) (status : RecordStatus) :
    (t.moved status).countdown =
        (if (t.moved status).state = .quarantined then countdownOf t.probeExponent else t.countdown) ∧
      (t.moved status).counts.quarantineEntries =
        (if (t.moved status).state = .quarantined then count16 t.counts.quarantineEntries
         else t.counts.quarantineEntries) := by
  cases status with
  | ok | dataNack => exact ⟨rfl, rfl⟩
  | addrNack | stretchTimeout => unfold Target.moved; dsimp only; split <;> exact ⟨rfl, rfl⟩
  | arbLost | busStuck | aborted | cancelled | quarantined => exact ⟨(if_neg hq).symm, (if_neg hq).symm⟩

theorem Target.moved_state_of_failed {status : RecordStatus} (h : status = .addrNack ∨ status = .stretchTimeout)
    (t : Target) :
    (t.moved status).state =
      if 0 < t.threshold.val ∧ t.threshold.val ≤ t.failures then .quarantined else .suspect := by
  rcases h with rfl | rfl <;> exact apply_ite Target.state _ _ _

theorem Target.afterOutcome_state {t : Target} (hf : t.state ≠ .free) (isProbe : Bool) (status : RecordStatus) :
    (t.afterOutcome isProbe status).state =
      if t.state = .quarantined then
        if isProbe = true ∧ (status = .ok ∨ status = .dataNack) then .online else .quarantined
      else ((t.counted status).moved status).state := by
  by_cases hq : t.state = .quarantined
  · rw [Target.afterOutcome_of_quarantined hq, if_pos hq]
    cases isProbe with
    | false => simpa using hq
    | true => simp [Target.probed_eq, apply_ite Target.state, hq]
  · rw [Target.afterOutcome_of_active hf hq, if_neg hq]

theorem Target.afterOutcome_countdown {t : Target} (hf : t.state ≠ .free) (isProbe : Bool) (status : RecordStatus) :
    (t.afterOutcome isProbe status).countdown =
      if t.state = .quarantined then
        if isProbe = true then
          if status = .ok ∨ status = .dataNack then 0 else countdownOf t.probeExponent
        else t.countdown
      else if (t.afterOutcome isProbe status).state = .quarantined then countdownOf t.probeExponent
      else t.countdown := by
  by_cases hq : t.state = .quarantined
  · rw [Target.afterOutcome_of_quarantined hq, if_pos hq]
    cases isProbe with
    | false => rfl
    | true => simp [Target.probed_eq, apply_ite Target.countdown]
  · rw [Target.afterOutcome_of_active hf hq, if_neg hq]
    exact (Target.moved_quarantine (t := t.counted status) hq status).1

/-- Quarantine Entries counts the entries into QUARANTINED (R97). -/
theorem Target.afterOutcome_quarantineEntries {t : Target} (hf : t.state ≠ .free) (isProbe : Bool)
    (status : RecordStatus) :
    (t.afterOutcome isProbe status).counts.quarantineEntries =
      if t.state ≠ .quarantined ∧ (t.afterOutcome isProbe status).state = .quarantined then
        count16 t.counts.quarantineEntries
      else t.counts.quarantineEntries := by
  by_cases hq : t.state = .quarantined
  · rw [Target.afterOutcome_of_quarantined hq]
    cases isProbe with
    | false => simp [hq]
    | true => simp [hq, Target.probed_eq, apply_ite Target.counts]
  · rw [Target.afterOutcome_of_active hf hq, (Target.moved_quarantine (t := t.counted status) hq status).2]
    simp [hq]

/-! ### The end of a transaction (R55) -/

theorem endTransaction_targets {i : Fin 4} {f : Final} {s : State} {x : Transaction} (h : (s.lane i).txn = some x) :
    (endTransaction i f s).targets =
      s.targets.set x.target ((s.target x.target).afterOutcome (x.work == .probe) f.status) := by
  simp only [endTransaction, h]
  rw [wakeLane_frame, reportOutcome_frame, targetOutcome_frame]
  rfl

theorem endTransaction_target_self {i : Fin 4} {f : Final} {s : State} {x : Transaction}
    (h : (s.lane i).txn = some x) :
    (endTransaction i f s).target x.target = (s.target x.target).afterOutcome (x.work == .probe) f.status := by
  rw [State.target, endTransaction_targets h, Table.get_set_self]

theorem endTransaction_target_ne {i : Fin 4} {f : Final} {s : State} {x : Transaction} (h : (s.lane i).txn = some x)
    {t : Fin 32} (ht : t ≠ x.target) : (endTransaction i f s).target t = s.target t := by
  rw [State.target, endTransaction_targets h, Table.get_set_ne _ _ ht]
  rfl

/-- Of the blocks of R55 only the Target Table posts, and it posts the change of the entry (R104). -/
theorem endTransaction_posts {i : Fin 4} {f : Final} {s : State} {x : Transaction} (h : (s.lane i).txn = some x) :
    (endTransaction i f s).notices =
        (changeTarget x.target ((endTransaction i f s).target x.target)
          (s.setLane i ((s.lane i).endTxn f.status))).notices ∧
      (endTransaction i f s).lostNotices =
        (changeTarget x.target ((endTransaction i f s).target x.target)
          (s.setLane i ((s.lane i).endTxn f.status))).lostNotices := by
  rw [endTransaction_target_self h]
  simp only [endTransaction, h]
  rw [wakeLane_frame, reportOutcome_frame, targetOutcome, wakeIfRevived_frame]
  exact ⟨rfl, rfl⟩

theorem endTransaction_notices_of_state_eq {i : Fin 4} {f : Final} {s : State} {x : Transaction}
    (h : (s.lane i).txn = some x)
    (hst : ((endTransaction i f s).target x.target).state = (s.target x.target).state) :
    (endTransaction i f s).notices = s.notices ∧ (endTransaction i f s).lostNotices = s.lostNotices := by
  obtain ⟨hn, hl⟩ := endTransaction_posts (f := f) h
  rw [hn, hl, changeTarget_of_state_eq (s := s.setLane i _) hst.symm]
  exact ⟨rfl, rfl⟩

theorem endTransaction_notices_of_state_ne {i : Fin 4} {f : Final} {s : State} {x : Transaction}
    (h : (s.lane i).txn = some x)
    (hst : ((endTransaction i f s).target x.target).state ≠ (s.target x.target).state) :
    let notice := targetNotice x.target ((endTransaction i f s).target x.target)
    (endTransaction i f s).notices = (post notice s).notices ∧
      (endTransaction i f s).lostNotices = (post notice s).lostNotices := by
  obtain ⟨hn, hl⟩ := endTransaction_posts (f := f) h
  rw [hn, hl, changeTarget_of_state_ne (s := s.setLane i _) hst.symm]
  exact post_notices_congr _ rfl rfl

/-- Settles O21: the fields of the entry by the three rules of R8, R95 and R96 to R100, the notice by R104. -/
theorem outcomeMovesTarget : Obligations.OutcomeMovesTarget := by
  intro s i x htxn f _ _ a ha hfree b hb
  have hself : b = a.afterOutcome (x.work == .probe) f.status := by rw [hb, ha, endTransaction_target_self htxn]
  have hframe := Target.afterOutcome_frame hfree (x.work == .probe) f.status
  have hstate := Target.afterOutcome_state hfree (x.work == .probe) f.status
  have hcountdown := Target.afterOutcome_countdown hfree (x.work == .probe) f.status
  have hentries := Target.afterOutcome_quarantineEntries hfree (x.work == .probe) f.status
  rw [← hself] at hframe hstate hcountdown hentries
  simp only [beq_iff_eq] at hstate hcountdown
  have hfailures : b.failures = failuresAfter f.status a.failures := congrArg Target.failures hframe
  have hcounts := congrArg Target.counts hframe
  rw [TargetCounts.count_eq] at hcounts
  refine ⟨fun t ht => endTransaction_target_ne htxn ht, ?frame, ?failures, congrArg TargetCounts.completionsOk hcounts,
    congrArg TargetCounts.addrNacks hcounts, congrArg TargetCounts.dataNacks hcounts,
    congrArg TargetCounts.stretchTimeouts hcounts, hentries, ?state, hcountdown, ?same, ?changed⟩
  case frame => rw [hframe]
  case failures =>
    rw [hfailures]
    cases f.status <;> rfl
  case state =>
    rw [hstate, hfailures]
    cases f.status with
    | addrNack | stretchTimeout => rw [Target.moved_state_of_failed (by simp)]; rfl
    | _ => rfl
  case same =>
    intro hst
    rw [hb, ha] at hst
    exact endTransaction_notices_of_state_eq htxn hst
  case changed =>
    intro hst
    rw [hb, ha] at hst
    rw [hb]
    exact endTransaction_notices_of_state_ne htxn hst

end Sys2Proof.Machine

/-! PROOF. Cycle starts (R14, R15): what a cycle start makes of each lane, the work list that admission makes (R30,
R32), the misses counted and the postings made of them (R31, R33, R56), with the statements about cycle starts. -/

namespace Sys2Proof.Machine

/-! ### The state that admission sees -/

section
variable (c : Word16) (s : State)

@[simp] theorem atCycle_poll (p : Fin 48) : ({ s with cycle := c } : State).poll p = s.poll p := rfl
@[simp] theorem atCycle_lane (i : Fin 4) : ({ s with cycle := c } : State).lane i = s.lane i := rfl
@[simp] theorem atCycle_pollLane (p : Fin 48) : pollLane { s with cycle := c } p = pollLane s p := rfl

end

/-! ### Lanes that gain probes, alert reads and a look for work -/

/-- From one lane to the other only the PROBE and ALERT tiers and the owed look for work differ. -/
def Lane.SameButTiers (l l' : Lane) : Prop :=
  ∃ probes reads owed, l' = { l with probeTier := probes, alertTier := reads, lookOwed := owed }

theorem Lane.SameButTiers.refl (l : Lane) : l.SameButTiers l := ⟨_, _, _, rfl⟩

theorem Lane.SameButTiers.trans {a b c : Lane} : a.SameButTiers b → b.SameButTiers c → a.SameButTiers c := by
  rintro ⟨_, _, _, rfl⟩ ⟨_, _, _, rfl⟩
  exact ⟨_, _, _, rfl⟩

theorem Lane.sameButTiers_wake (l : Lane) : l.SameButTiers l.wake := ⟨_, _, _, l.wake_frame⟩

theorem wakeLane_sameButTiers (i k : Fin 4) (s : State) : (s.lane k).SameButTiers ((wakeLane i s).lane k) := by
  rw [wakeLane_lane]
  split
  · exact Lane.sameButTiers_wake _
  · exact .refl _

theorem wakeAll_sameButTiers (s : State) (k : Fin 4) : (s.lane k).SameButTiers ((wakeAll s).lane k) := by
  rw [wakeAll_lane]
  split
  · exact Lane.sameButTiers_wake _
  · exact .refl _

theorem setLane_sameButTiers {i : Fin 4} {x : Lane} {s : State} (h : (s.lane i).SameButTiers x) (k : Fin 4) :
    (s.lane k).SameButTiers ((s.setLane i x).lane k) := by
  rw [State.setLane_lane]
  split
  · rename_i hk
    exact hk ▸ h
  · exact .refl _

theorem trigger_sameButTiers (l : Fin 8) (s : State) (k : Fin 4) : (s.lane k).SameButTiers ((trigger l s).lane k) :=
  (setLane_sameButTiers (s := s.setLine l _) ⟨_, _, _, rfl⟩ k).trans (wakeLane_sameButTiers ..)

theorem queueProbe_sameButTiers (t : Fin 32) (s : State) (k : Fin 4) :
    (s.lane k).SameButTiers ((queueProbe t s).lane k) :=
  (setLane_sameButTiers (s := s.setTarget t _) ⟨_, _, _, rfl⟩ k).trans (wakeLane_sameButTiers ..)

/-- Steps that change no lane but in its tiers add up to such a change. -/
theorem foldl_sameButTiers {α : Type} {f : State → α → State}
    (hf : ∀ (s : State) a k, (s.lane k).SameButTiers ((f s a).lane k)) (as : List α) (s : State) (k : Fin 4) :
    (s.lane k).SameButTiers ((as.foldl f s).lane k) :=
  foldl_keeps (P := fun u => (s.lane k).SameButTiers (u.lane k)) (fun u a h => h.trans (hf u a k)) as s (.refl _)

theorem leaveHoldoffs_sameButTiers (picks : List Nat) (s : State) (k : Fin 4) :
    (s.lane k).SameButTiers ((leaveHoldoffs picks s).lane k) :=
  (foldl_sameButTiers (f := armLine) (fun _ _ _ => .refl _) _ s k).trans
    (foldl_sameButTiers (fun u l j => trigger_sameButTiers l u j) ..)

theorem countDowns_sameButTiers (picks : List Nat) (s : State) (k : Fin 4) :
    (s.lane k).SameButTiers ((countDowns picks s).lane k) :=
  (foldl_sameButTiers (f := fun u t => lowerCountdown t u) (fun _ _ _ => .refl _) _ s k).trans
    (foldl_sameButTiers (fun u t j => queueProbe_sameButTiers t u j) ..)

theorem postCycle_lane (picks : List Nat) (b s : State) (k : Fin 4) : (postCycle picks b s).lane k = s.lane k := by
  rw [postCycle_frame]
  rfl

theorem afterChoice_lane (s : State) (k : Fin 4) : s.afterChoice.lane k = s.lane k := by
  rw [afterChoice_frame]
  rfl

theorem scheduleCycle_lane (s : State) (i : Fin 4) :
    (scheduleCycle s).lane i = (s.lane i).atCycleStart (admittedOf (laneAdmission s i)) :=
  Table.get_ofFn ..

/-! ### The parts of a cycle start (R15) -/

/-- The part once the misses have been posted and the lines have left HOLDOFF: the state on which the countdowns act. -/
def beforeCountDowns (c : Word16) (s : State) : State :=
  withChoice leaveHoldoffs
    (withChoice (fun picks => postCycle picks { s with cycle := c }) (scheduleCycle { s with cycle := c }))

theorem startCycle_eq (c : Word16) (s : State) :
    startCycle c s = wakeAll (withChoice countDowns (beforeCountDowns c s)) := rfl

/-- The lane at a cycle start (R29, R40, R56), before reads and probes join its tiers. -/
theorem startCycle_sameButTiers (c : Word16) (s : State) (i : Fin 4) :
    ((s.lane i).atCycleStart (admittedOf (laneAdmission { s with cycle := c } i))).SameButTiers
      ((startCycle c s).lane i) := by
  have hschedule := scheduleCycle_lane { s with cycle := c } i
  have hlines := leaveHoldoffs_sameButTiers
  have hdown := countDowns_sameButTiers
  rw [startCycle_eq, beforeCountDowns, ← atCycle_lane c s i, ← hschedule]
  unfold withChoice
  refine .trans ?_ (wakeAll_sameButTiers _ i)
  refine .trans ?_ (hdown _ _ i)
  rw [afterChoice_lane]
  refine .trans ?_ (hlines _ _ i)
  rw [afterChoice_lane, postCycle_lane, afterChoice_lane]
  exact .refl _

theorem startCycle_workList (c : Word16) (s : State) (i : Fin 4) :
    ((startCycle c s).lane i).workList = admittedOf (laneAdmission { s with cycle := c } i) := by
  obtain ⟨_, _, _, h⟩ := startCycle_sameButTiers c s i
  rw [h]
  rfl

theorem wakeAll_lookOwed {s : State} {i : Fin 4} (hop : s.op = .running) (h : (s.lane i).state = .idle) :
    ((wakeAll s).lane i).lookOwed = true := by
  rw [wakeAll_lane, if_pos hop, Lane.wake, if_pos h]

/-- Every IDLE lane looks for work when a cycle starts in RUNNING (R43). -/
theorem startCycle_lookOwed {c : Word16} {s : State} {i : Fin 4} (hop : s.op = .running)
    (h : (s.lane i).state = .idle) : ((startCycle c s).lane i).lookOwed = true := by
  have hop' : (startCycle c s).op = .running := by rw [startCycle_frame]; exact hop
  have hstate : ((startCycle c s).lane i).state = .idle := by
    obtain ⟨_, _, _, h'⟩ := startCycle_sameButTiers c s i
    rw [h']
    exact h
  rw [startCycle_eq] at hop' hstate ⊢
  generalize withChoice countDowns (beforeCountDowns c s) = u at *
  rw [wakeAll_frame] at hop'
  rw [wakeAll_lane, apply_ite Lane.state, Lane.wake_state, ite_self] at hstate
  exact wakeAll_lookOwed hop' hstate

/-- Settles O13: the frame of a cycle start, and each lane as R29, R40 and R56 leave it. -/
theorem cycleStartOpensLanes : Obligations.CycleStartOpensLanes := by
  refine ⟨fun s => ⟨fun hop => if_pos hop, fun hop => if_neg hop⟩, fun s c => ?_, fun s c i => ?_⟩
  · refine ⟨by rw [startCycle_frame], _, _, _, _, _, _, _, _, startCycle_frame c s, fun i => ?_⟩
    obtain ⟨_, _, _, h⟩ := startCycle_sameButTiers c s i
    rw [State.lane] at h
    rw [h]
    exact ⟨rfl, rfl, rfl, rfl⟩
  · obtain ⟨_, _, _, h⟩ := startCycle_sameButTiers c s i
    refine ⟨?_, ?_, ?_, startCycle_lookOwed⟩
    all_goals
      rw [h]
      rfl

/-! ### Due polls in their order (R30, R32) -/

/-- Poll `p` comes before poll `q` in admission (R32): the shorter period first, then the smaller number. -/
abbrev Before (s : State) (p q : Fin 48) : Prop :=
  (s.poll p).defn.periodExponent < (s.poll q).defn.periodExponent ∨
    ((s.poll p).defn.periodExponent = (s.poll q).defn.periodExponent ∧ p < q)

theorem Poll.due_iff (p : Poll) (c : Word16) :
    p.due c = true ↔ p.state = .active ∧ c.toNat % 2 ^ p.defn.periodExponent.val = p.defn.phase := by
  simp [Poll.due]

theorem mem_duePolls (s : State) (i : Fin 4) (p : Fin 48) :
    p ∈ duePolls s i ↔ (s.poll p).due s.cycle = true ∧ pollLane s p = i := by
  simp [duePolls]

theorem duePolls_pairwise (s : State) (i : Fin 4) : (duePolls s i).Pairwise (Before s) := by
  unfold duePolls
  rw [List.pairwise_flatMap]
  refine ⟨fun e _ => ?_, (List.pairwise_lt_finRange 8).imp fun {a b} hab p hp q hq => ?_⟩
  · refine (((List.pairwise_lt_finRange 48).filter _).filter _).imp_of_mem fun {p q} hp hq hpq => ?_
    simp only [List.mem_filter, beq_iff_eq] at hp hq
    exact .inr ⟨hp.2.trans hq.2.symm, hpq⟩
  · simp only [List.mem_filter, beq_iff_eq] at hp hq
    exact .inl (hp.2 ▸ hq.2 ▸ hab)

theorem Before.ne {s : State} {p q : Fin 48} (h : Before s p q) : p ≠ q := by
  rintro rfl
  rcases h with h | ⟨_, h⟩ <;> exact lt_irrefl _ h

theorem duePolls_nodup (s : State) (i : Fin 4) : (duePolls s i).Nodup :=
  (duePolls_pairwise s i).imp Before.ne

/-! ### Admission (R32) -/

/-- The polls that admission takes from a list of due polls with `total` already admitted (R32). -/
def admits (s : State) (budget : Nat) (ps : List (Fin 48)) (total : Nat) : List (Fin 48) :=
  admittedOf (admitPolls s budget ps total)

theorem admits_nil (s : State) (budget total : Nat) : admits s budget [] total = [] := rfl

theorem admits_cons (s : State) (budget : Nat) (p : Fin 48) (rest : List (Fin 48)) (total : Nat) :
    admits s budget (p :: rest) total =
      if s.isQuarantined (s.poll p).defn.target then admits s budget rest total
      else if total + pollCost s p ≤ budget then p :: admits s budget rest (total + pollCost s p)
      else admits s budget rest total := by
  unfold admits
  rw [admitPolls]
  split
  · rfl
  · split <;> rfl

theorem admits_sublist (s : State) (budget : Nat) (ps : List (Fin 48)) (total : Nat) :
    (admits s budget ps total).Sublist ps := by
  induction ps generalizing total with
  | nil => exact .refl _
  | cons p rest ih =>
    rw [admits_cons]
    split
    · exact (ih _).cons _
    · split
      · exact (ih _).cons_cons _
      · exact (ih _).cons _

theorem not_isQuarantined_of_mem_admits {s : State} {budget : Nat} {ps : List (Fin 48)} {total : Nat} {p : Fin 48}
    (h : p ∈ admits s budget ps total) : s.isQuarantined (s.poll p).defn.target = false := by
  induction ps generalizing total with
  | nil => simp [admits_nil] at h
  | cons q rest ih =>
    rw [admits_cons] at h
    split at h
    · exact ih h
    · rename_i hq
      split at h
      · rcases List.mem_cons.1 h with rfl | h
        · simpa using hq
        · exact ih h
      · exact ih h

/-- The costs of the admitted polls stay within the budget (R32). -/
theorem admits_cost_le (s : State) (budget : Nat) (ps : List (Fin 48)) {total : Nat} (h : total ≤ budget) :
    total + ((admits s budget ps total).map (pollCost s)).sum ≤ budget := by
  induction ps generalizing total with
  | nil => simpa [admits_nil] using h
  | cons p rest ih =>
    rw [admits_cons]
    split
    · exact ih h
    · split
      · rename_i hfit
        have := ih hfit
        simp only [List.map_cons, List.sum_cons]
        omega
      · exact ih h

/-- A poll that admission passes over for its cost does not fit beside those admitted before it (R32). -/
theorem budget_lt_of_not_mem_admits {s : State} {budget : Nat} {ps : List (Fin 48)} (hps : ps.Pairwise (Before s))
    {total : Nat} {p : Fin 48} (hp : p ∈ ps) (hq : s.isQuarantined (s.poll p).defn.target = false)
    (hout : p ∉ admits s budget ps total) :
    budget < total + pollCost s p +
      (((admits s budget ps total).filter fun q => decide (Before s q p)).map (pollCost s)).sum := by
  induction ps generalizing total with
  | nil => simp at hp
  | cons q rest ih =>
    obtain ⟨hbefore, hrest⟩ := List.pairwise_cons.1 hps
    rw [admits_cons] at hout ⊢
    rcases List.mem_cons.1 hp with rfl | hp
    · rw [if_neg (by simp [hq])] at hout ⊢
      split at hout
      · simp at hout
      · rename_i hcost
        rw [if_neg hcost]
        omega
    · split at hout
      · rename_i hquar
        rw [if_pos hquar]
        exact ih hrest hp hout
      · rename_i hquar
        rw [if_neg hquar]
        split at hout
        · rename_i hfit
          have := ih hrest hp (fun h => hout (List.mem_cons_of_mem _ h))
          rw [if_pos hfit, List.filter_cons_of_pos (by simpa using hbefore p hp)]
          simp only [List.map_cons, List.sum_cons]
          omega
        · rename_i hfit
          rw [if_neg hfit]
          exact ih hrest hp hout

/-! ### The work list of a cycle (R29, R30, R32) -/

theorem laneAdmission_up {s : State} {i : Fin 4} (h : (s.lane i).state = .idle ∨ (s.lane i).state = .busy) :
    laneAdmission s i = admitPolls s (s.lane i).budget (duePolls s i) 0 := by
  unfold laneAdmission
  rcases h with h | h <;> rw [h]

theorem laneAdmission_down {s : State} {i : Fin 4} (hi : (s.lane i).state ≠ .idle) (hb : (s.lane i).state ≠ .busy) :
    laneAdmission s i = (duePolls s i).map fun p => (p, .missed .laneDown) := by
  unfold laneAdmission
  split <;> simp_all

theorem admittedOf_missed (ps : List (Fin 48)) (r : MissReason) :
    admittedOf (ps.map fun p => (p, .missed r)) = [] := by
  simp [admittedOf, List.filterMap_map]

theorem admitted_up {s : State} {i : Fin 4} (h : (s.lane i).state = .idle ∨ (s.lane i).state = .busy) :
    admittedOf (laneAdmission s i) = admits s (s.lane i).budget (duePolls s i) 0 := by
  rw [laneAdmission_up h, admits]

theorem admitted_down {s : State} {i : Fin 4} (hi : (s.lane i).state ≠ .idle) (hb : (s.lane i).state ≠ .busy) :
    admittedOf (laneAdmission s i) = [] := by
  rw [laneAdmission_down hi hb, admittedOf_missed]

theorem admitted_sublist (s : State) (i : Fin 4) : (admittedOf (laneAdmission s i)).Sublist (duePolls s i) := by
  by_cases h : (s.lane i).state = .idle ∨ (s.lane i).state = .busy
  · rw [admitted_up h]
    exact admits_sublist ..
  · rw [admitted_down (fun e => h (.inl e)) (fun e => h (.inr e))]
    exact List.nil_sublist _

theorem not_isQuarantined_of_admitted {s : State} {i : Fin 4} {p : Fin 48} (h : p ∈ admittedOf (laneAdmission s i)) :
    s.isQuarantined (s.poll p).defn.target = false := by
  by_cases hup : (s.lane i).state = .idle ∨ (s.lane i).state = .busy
  · rw [admitted_up hup] at h
    exact not_isQuarantined_of_mem_admits h
  · rw [admitted_down (fun e => hup (.inl e)) (fun e => hup (.inr e))] at h
    simp at h

theorem admitted_cost_le (s : State) (i : Fin 4) :
    ((admittedOf (laneAdmission s i)).map (pollCost s)).sum ≤ (s.lane i).budget := by
  by_cases hup : (s.lane i).state = .idle ∨ (s.lane i).state = .busy
  · rw [admitted_up hup]
    simpa using admits_cost_le s (s.lane i).budget (duePolls s i) (Nat.zero_le _)
  · rw [admitted_down (fun e => hup (.inl e)) (fun e => hup (.inr e))]
    simp

theorem isQuarantined_eq_false (s : State) (t : Fin 32) :
    s.isQuarantined t = false ↔ (s.target t).state ≠ .quarantined := by
  simp [State.isQuarantined]

/-- Settles O14, by the induction over the due polls in their order. -/
theorem admissionFillsWorkList : Obligations.AdmissionFillsWorkList := by
  intro s c i l hl
  obtain rfl := hl.trans (startCycle_workList c s i)
  have hdue (p : Fin 48) : p ∈ duePolls { s with cycle := c } i ↔ ((s.poll p).state = .active ∧
      c.toNat % 2 ^ (s.poll p).defn.periodExponent.val = (s.poll p).defn.phase) ∧ pollLane s p = i := by
    rw [mem_duePolls, Poll.due_iff]
    rfl
  have hsub := admitted_sublist { s with cycle := c } i
  have hsorted := duePolls_pairwise { s with cycle := c } i
  refine ⟨fun hi hb => admitted_down (s := { s with cycle := c }) hi hb, fun p hp => ?_, hsorted.sublist hsub,
    admitted_cost_le { s with cycle := c } i, fun p hup hactive hphase hlane hquar hout => ?_⟩
  · obtain ⟨⟨hactive, hphase⟩, hlane⟩ := (hdue p).1 (hsub.subset hp)
    exact ⟨hactive, hphase, hlane,
      (isQuarantined_eq_false s _).1 (not_isQuarantined_of_admitted (s := { s with cycle := c }) hp)⟩
  · rw [admitted_up (s := { s with cycle := c }) hup] at hout ⊢
    have := budget_lt_of_not_mem_admits hsorted ((hdue p).2 ⟨⟨hactive, hphase⟩, hlane⟩)
      ((isQuarantined_eq_false s _).2 hquar) hout
    rwa [Nat.zero_add] at this

/-! ### The misses of a cycle start (R31, R32, R33) -/

/-- The miss that admission decides for a due poll of lane `i`, none where it admits the poll (R32). -/
def missReason (s : State) (i : Fin 4) (p : Fin 48) : Option MissReason :=
  if (s.lane i).state ≠ .idle ∧ (s.lane i).state ≠ .busy then some .laneDown
  else if (s.target (s.poll p).defn.target).state = .quarantined then some .quarantined
  else if p ∈ admittedOf (laneAdmission s i) then none
  else some .shed

/-- The polls of a list that are missed, each with its reason. -/
def missedPolls (reason : Fin 48 → Option MissReason) (ps : List (Fin 48)) : List (Fin 48 × MissReason) :=
  ps.filterMap fun p => (reason p).map fun r => (p, r)

theorem missedPolls_congr {f g : Fin 48 → Option MissReason} {ps : List (Fin 48)} (h : ∀ p ∈ ps, f p = g p) :
    missedPolls f ps = missedPolls g ps :=
  List.filterMap_congr fun p hp => by rw [h p hp]

/-- The verdicts of admission that are misses (R32). -/
def missedOf (vs : List (Fin 48 × Verdict)) : List (Fin 48 × MissReason) :=
  vs.filterMap fun v => match v.2 with | .admitted => none | .missed r => some (v.1, r)

theorem missedOf_admitPolls (s : State) (budget : Nat) {ps : List (Fin 48)} (hps : ps.Nodup) (total : Nat) :
    missedOf (admitPolls s budget ps total) = missedPolls (fun p =>
      if (s.target (s.poll p).defn.target).state = .quarantined then some .quarantined
      else if p ∈ admits s budget ps total then none else some .shed) ps := by
  induction ps generalizing total with
  | nil => rfl
  | cons p rest ih =>
    obtain ⟨hp, hrest⟩ := List.nodup_cons.1 hps
    have hnot (total : Nat) : p ∉ admits s budget rest total := fun h => hp ((admits_sublist ..).subset h)
    have hquar : s.isQuarantined (s.poll p).defn.target = true ↔
      (s.target (s.poll p).defn.target).state = .quarantined := by simp [State.isQuarantined]
    rw [admits_cons, admitPolls]
    by_cases hq : s.isQuarantined (s.poll p).defn.target = true
    · rw [if_pos hq, if_pos hq]
      simp only [missedPolls, List.filterMap_cons, if_pos (hquar.1 hq), Option.map_some]
      exact congrArg (_ :: ·) (ih hrest total)
    · have hq' := mt hquar.2 hq
      rw [if_neg hq, if_neg hq]
      by_cases hfit : total + pollCost s p ≤ budget
      · rw [if_pos hfit, if_pos hfit]
        simp only [missedPolls, List.filterMap_cons, if_neg hq', List.mem_cons_self, if_true, Option.map_none]
        refine (ih hrest _).trans (missedPolls_congr fun q hmem => ?_)
        simp [show q ≠ p from fun e => hp (e ▸ hmem)]
      · rw [if_neg hfit, if_neg hfit]
        simp only [missedPolls, List.filterMap_cons, if_neg hq', if_neg (hnot total), Option.map_some]
        exact congrArg (_ :: ·) (ih hrest total)

/-- The misses counted at a cycle start on lane `i`: a LATE one for each poll still listed (R31), then those of
admission (R32). -/
theorem cycleMisses_eq (s : State) (i : Fin 4) :
    cycleMisses s i =
      (s.lane i).workList.map (fun p => (p, .late)) ++ missedPolls (missReason s i) (duePolls s i) := by
  have hmissed : missedOf (laneAdmission s i) = missedPolls (missReason s i) (duePolls s i) := by
    by_cases hup : (s.lane i).state = .idle ∨ (s.lane i).state = .busy
    · rw [laneAdmission_up hup, missedOf_admitPolls s _ (duePolls_nodup s i)]
      have hnot : ¬((s.lane i).state ≠ .idle ∧ (s.lane i).state ≠ .busy) := by tauto
      exact missedPolls_congr fun p _ => by rw [missReason, if_neg hnot, admitted_up hup]
    · have hdown : (s.lane i).state ≠ .idle ∧ (s.lane i).state ≠ .busy := by tauto
      rw [laneAdmission_down hdown.1 hdown.2, missedOf, List.filterMap_map, missedPolls]
      refine List.filterMap_congr fun p _ => ?_
      rw [missReason, if_pos hdown]
      rfl
  rw [← hmissed]
  rfl

/-! ### The misses of one poll entry -/

/-- The reasons for which a list of misses names poll `p`, in order. -/
def reasonsOf (p : Fin 48) (ms : List (Fin 48 × MissReason)) : List MissReason :=
  (ms.filter fun m => m.1 == p).map Prod.snd

theorem reasonsOf_cons (p : Fin 48) (m : Fin 48 × MissReason) (ms : List (Fin 48 × MissReason)) :
    reasonsOf p (m :: ms) = if m.1 = p then m.2 :: reasonsOf p ms else reasonsOf p ms := by
  by_cases h : m.1 = p <;> simp [reasonsOf, h]

theorem reasonsOf_append (p : Fin 48) (ms ns : List (Fin 48 × MissReason)) :
    reasonsOf p (ms ++ ns) = reasonsOf p ms ++ reasonsOf p ns := by
  simp [reasonsOf]

theorem reasonsOf_flatMap {α : Type} (p : Fin 48) (f : α → List (Fin 48 × MissReason)) (l : List α) :
    reasonsOf p (l.flatMap f) = l.flatMap fun a => reasonsOf p (f a) := by
  simp [reasonsOf, List.filter_flatMap, List.map_flatMap]

/-- Misses counted one after the other at an entry (R33). -/
theorem countMisses_poll (ms : List (Fin 48 × MissReason)) (s : State) (p : Fin 48) :
    (ms.foldl countMiss s).poll p = { s.poll p with
      counts := { (s.poll p).counts with
        misses := (reasonsOf p ms).foldl Misses.count (s.poll p).counts.misses } } := by
  induction ms generalizing s with
  | nil => rfl
  | cons m ms ih =>
    rw [List.foldl_cons, ih, reasonsOf_cons, countMiss, State.setPoll_poll]
    by_cases h : m.1 = p
    · subst h
      simp
    · simp [h, Ne.symm h]

theorem reasonsOf_late {ps : List (Fin 48)} (h : ps.Nodup) (p : Fin 48) :
    reasonsOf p (ps.map fun q => (q, .late)) = if p ∈ ps then [.late] else [] := by
  induction ps with
  | nil => rfl
  | cons q rest ih =>
    obtain ⟨hq, hrest⟩ := List.nodup_cons.1 h
    rw [List.map_cons, reasonsOf_cons, ih hrest]
    by_cases e : q = p
    · subst e
      simp [hq]
    · simp [e, Ne.symm e]

theorem reasonsOf_missedPolls (reason : Fin 48 → Option MissReason) {ps : List (Fin 48)} (h : ps.Nodup)
    (p : Fin 48) :
    reasonsOf p (missedPolls reason ps) = if p ∈ ps then (reason p).toList else [] := by
  induction ps with
  | nil => rfl
  | cons q rest ih =>
    obtain ⟨hq, hrest⟩ := List.nodup_cons.1 h
    have hcons : reasonsOf p (missedPolls reason (q :: rest)) =
        (if q = p then (reason q).toList else []) ++ reasonsOf p (missedPolls reason rest) := by
      cases hr : reason q <;> simp [missedPolls, hr, reasonsOf_cons]
      split <;> rfl
    rw [hcons, ih hrest]
    by_cases e : q = p
    · subst e
      simp [hq]
    · simp [e, Ne.symm e]

/-- The reasons for which a cycle start counts misses at an entry: on the lane of its target only (R19, R29). -/
theorem reasonsOf_cycleMisses {s : State} (hs : ScheduleInv s) (p : Fin 48) :
    reasonsOf p ((List.finRange 4).flatMap (cycleMisses s)) =
      (if p ∈ (s.lane (pollLane s p)).workList then [.late] else []) ++
        (if (s.poll p).due s.cycle = true then (missReason s (pollLane s p) p).toList else []) := by
  have hlane (i : Fin 4) : reasonsOf p (cycleMisses s i) =
      if pollLane s p = i then
        (if p ∈ (s.lane i).workList then [.late] else []) ++
          (if (s.poll p).due s.cycle = true then (missReason s i p).toList else [])
      else [] := by
    obtain ⟨hnodup, hlisted⟩ := hs.2 i
    rw [cycleMisses_eq, reasonsOf_append, reasonsOf_late hnodup, reasonsOf_missedPolls _ (duePolls_nodup s i)]
    simp only [mem_duePolls]
    by_cases h : pollLane s p = i
    · simp [h]
    · simp [h, show p ∉ (s.lane i).workList from fun hp => h (hlisted p hp).2]
  rw [reasonsOf_flatMap]
  simp only [hlane]
  generalize pollLane s p = k
  fin_cases k <;> simp [List.finRange_succ]

theorem wakeAll_polls (s : State) : (wakeAll s).polls = s.polls := by rw [wakeAll_frame]
theorem afterChoice_polls (s : State) : s.afterChoice.polls = s.polls := by rw [afterChoice_frame]
theorem postCycle_polls (picks : List Nat) (b s : State) : (postCycle picks b s).polls = s.polls := by
  rw [postCycle_frame]
theorem leaveHoldoffs_polls (picks : List Nat) (s : State) : (leaveHoldoffs picks s).polls = s.polls := by
  rw [leaveHoldoffs_frame]
theorem countDowns_polls (picks : List Nat) (s : State) : (countDowns picks s).polls = s.polls := by
  rw [countDowns_frame]
theorem scheduleCycle_polls (s : State) :
    (scheduleCycle s).polls = (((List.finRange 4).flatMap (cycleMisses s)).foldl countMiss s).polls := rfl

theorem startCycle_polls (c : Word16) (s : State) :
    (startCycle c s).polls = (scheduleCycle { s with cycle := c }).polls := by
  rw [startCycle_eq, beforeCountDowns, wakeAll_polls, withChoice, countDowns_polls, afterChoice_polls, withChoice,
    leaveHoldoffs_polls, afterChoice_polls, withChoice, postCycle_polls, afterChoice_polls]

theorem startCycle_poll (c : Word16) (s : State) (p : Fin 48) :
    (startCycle c s).poll p =
      { s.poll p with counts := { (s.poll p).counts with
        misses := (reasonsOf p ((List.finRange 4).flatMap (cycleMisses { s with cycle := c }))).foldl Misses.count
          (s.poll p).counts.misses } } := by
  rw [State.poll, startCycle_polls, scheduleCycle_polls]
  exact countMisses_poll _ { s with cycle := c } p

/-- The miss that admission decides for a due poll, counted at its entry (R32, R33). -/
theorem foldl_count_missReason (s : State) (i : Fin 4) (p : Fin 48) (m : Misses) :
    (missReason s i p).toList.foldl Misses.count m =
      if (s.lane i).state ≠ .idle ∧ (s.lane i).state ≠ .busy then m.count .laneDown
      else if (s.target (s.poll p).defn.target).state = .quarantined then m.count .quarantined
      else if p ∈ admittedOf (laneAdmission s i) then m
      else m.count .shed := by
  unfold missReason
  split_ifs <;> rfl

/-- What a cycle start makes of a poll entry: a LATE miss, then the miss that admission decides if it is due (R31,
R32). -/
theorem startCycle_poll_of_inv {s : State} (hs : ScheduleInv s) (c : Word16) (p : Fin 48) (late : Misses)
    (hlate : late = if p ∈ (s.lane (pollLane s p)).workList then (s.poll p).counts.misses.count .late
      else (s.poll p).counts.misses) :
    (startCycle c s).poll p =
      { s.poll p with counts := { (s.poll p).counts with
        misses := if (s.poll p).due c = true then
            ((missReason { s with cycle := c } (pollLane s p) p).toList).foldl Misses.count late
          else late } } := by
  rw [startCycle_poll, reasonsOf_cycleMisses (s := { s with cycle := c }) hs, List.foldl_append, hlate]
  by_cases hlisted : p ∈ (s.lane (pollLane s p)).workList <;> by_cases hdue : (s.poll p).due c = true <;>
    simp [hlisted, hdue]

/-! ### The misses of a lane -/

theorem count16_min (n : Nat) : count16 (min n 65535) = min (n + 1) 65535 := by
  unfold count16 countUp
  split <;> omega

/-- The misses of a list by reason: each reason's number of misses, saturating (R33, R124). -/
theorem missTotals_eq (ms : List (Fin 48 × MissReason)) :
    missTotals ms =
      { shed := min (ms.countP fun m => m.2 == .shed) 65535
        late := min (ms.countP fun m => m.2 == .late) 65535
        quarantined := min (ms.countP fun m => m.2 == .quarantined) 65535
        laneDown := min (ms.countP fun m => m.2 == .laneDown) 65535 } := by
  induction ms using List.reverseRecOn with
  | nil => rfl
  | append_singleton ms m ih =>
    rw [missTotals, List.foldl_append]
    rw [missTotals] at ih
    rw [ih]
    obtain ⟨p, r⟩ := m
    cases r <;> simp [Misses.count, count16_min]

/-- A list of misses whose sums are all 0 is empty. -/
theorem missTotals_eq_zero (ms : List (Fin 48 × MissReason)) : missTotals ms = ⟨0, 0, 0, 0⟩ ↔ ms = [] := by
  refine ⟨fun h => ?_, fun h => by subst h; rfl⟩
  rw [missTotals_eq, Misses.mk.injEq] at h
  cases ms with
  | nil => rfl
  | cons m ms => obtain ⟨p, _ | _ | _ | _⟩ := m <;> simp at h

/-- The due polls of a lane in the order of their numbers. -/
theorem duePolls_perm (s : State) (i : Fin 4) :
    (duePolls s i).Perm ((List.finRange 48).filter fun p =>
      (s.poll p).state == .active && s.cycle.toNat % 2 ^ (s.poll p).defn.periodExponent.val == (s.poll p).defn.phase
        && pollLane s p == i) := by
  refine (List.perm_ext_iff_of_nodup (duePolls_nodup s i) ((List.nodup_finRange 48).filter _)).2 fun p => ?_
  rw [mem_duePolls]
  simp [Poll.due]

/-- The misses of a reason that admission decides on a lane. -/
theorem countP_missedPolls (reason : Fin 48 → Option MissReason) (r : MissReason) (ps : List (Fin 48)) :
    (missedPolls reason ps).countP (fun m => m.2 == r) = ps.countP fun p => reason p == some r := by
  induction ps with
  | nil => rfl
  | cons p rest ih =>
    rw [List.countP_cons, ← ih, missedPolls, List.filterMap_cons]
    cases hr : reason p with
    | none => simp [missedPolls]
    | some r' => simp [missedPolls, List.countP_cons]

theorem countP_cycleMisses (s : State) (i : Fin 4) (r : MissReason) :
    (cycleMisses s i).countP (fun m => m.2 == r) =
      (if r = .late then (s.lane i).workList.length else 0) +
        (duePolls s i).countP fun p => missReason s i p == some r := by
  rw [cycleMisses_eq, List.countP_append, countP_missedPolls, List.countP_map]
  congr 1
  cases r <;> simp [Function.comp_def]

/-! ### The postings of a cycle start (R33, R56, R124) -/

/-- A series of postings makes of the Notice Queue what it would make of an equal one. -/
theorem postAll_notices_congr {s u : State} (hn : u.notices = s.notices) (hl : u.lostNotices = s.lostNotices)
    (bs : List NoticeBody) :
    (bs.foldl (fun t b => post b t) u).notices = (bs.foldl (fun t b => post b t) s).notices ∧
      (bs.foldl (fun t b => post b t) u).lostNotices = (bs.foldl (fun t b => post b t) s).lostNotices := by
  induction bs generalizing s u with
  | nil => exact ⟨hn, hl⟩
  | cons b bs ih =>
    obtain ⟨hn', hl'⟩ := post_notices_congr b hn hl
    exact ih hn' hl'

/-- Groups in any order, the empty ones left out, are the groups of the lanes in some order. -/
theorem exists_order_of_groups {α β : Type} (g : α → List β) (l : List α) {gs : List (List β)}
    (h : gs.Perm ((l.map g).filter fun x => !x.isEmpty)) :
    ∃ order : List α, order.Perm l ∧ order.flatMap g = gs.flatten := by
  rw [List.filter_map] at h
  obtain ⟨order, hgs, horder⟩ := List.perm_comp_forall₂ h
    ((List.forall₂_map_left_iff (R := fun x a => x = g a)).2 (List.forall₂_same.2 fun _ _ => rfl))
  refine ⟨order ++ l.filter fun a => !!(g a).isEmpty, ?_, ?_⟩
  · exact (horder.append_right _).trans (List.filter_append_perm ..)
  · have hempty : (l.filter fun a => !!(g a).isEmpty).flatMap g = [] := by
      simp [List.flatMap_eq_nil_iff]
    have hmap : gs = order.map g := by
      rwa [← List.forall₂_eq_eq_eq, List.forall₂_map_right_iff]
    rw [List.flatMap_append, hempty, List.append_nil, hmap, List.flatMap]

theorem wakeAll_notices (s : State) : (wakeAll s).notices = s.notices ∧ (wakeAll s).lostNotices = s.lostNotices := by
  rw [wakeAll_frame]
  exact ⟨rfl, rfl⟩

theorem afterChoice_notices (s : State) :
    s.afterChoice.notices = s.notices ∧ s.afterChoice.lostNotices = s.lostNotices := by
  rw [afterChoice_frame]
  exact ⟨rfl, rfl⟩

theorem scheduleCycle_notices (s : State) :
    (scheduleCycle s).notices = s.notices ∧ (scheduleCycle s).lostNotices = s.lostNotices := by
  rw [scheduleCycle_frame]
  exact ⟨rfl, rfl⟩

theorem leaveHoldoffs_notices (picks : List Nat) (s : State) :
    (leaveHoldoffs picks s).notices = s.notices ∧ (leaveHoldoffs picks s).lostNotices = s.lostNotices := by
  rw [leaveHoldoffs_frame]
  exact ⟨rfl, rfl⟩

theorem countDowns_notices (picks : List Nat) (s : State) :
    (countDowns picks s).notices = s.notices ∧ (countDowns picks s).lostNotices = s.lostNotices := by
  rw [countDowns_frame]
  exact ⟨rfl, rfl⟩

/-- A cycle start posts for one lane after the other (R125). -/
theorem startCycle_notices (c : Word16) (s : State) :
    ∃ order : List (Fin 4), order.Perm [0, 1, 2, 3] ∧
      (startCycle c s).notices =
        ((order.flatMap (cyclePostings { s with cycle := c })).foldl (fun u b => post b u) s).notices ∧
      (startCycle c s).lostNotices =
        ((order.flatMap (cyclePostings { s with cycle := c })).foldl (fun u b => post b u) s).lostNotices := by
  obtain ⟨order, horder, hflat⟩ := exists_order_of_groups (cyclePostings { s with cycle := c }) (List.finRange 4)
    (reorder_perm (scheduleCycle { s with cycle := c }).choice _)
  obtain ⟨hn, hl⟩ := postAll_notices_congr (s := s) (u := (scheduleCycle { s with cycle := c }).afterChoice)
    (by rw [(afterChoice_notices _).1, (scheduleCycle_notices _).1])
    (by rw [(afterChoice_notices _).2, (scheduleCycle_notices _).2])
    (order.flatMap (cyclePostings { s with cycle := c }))
  refine ⟨order, horder, ?_, ?_⟩
  · rw [← hn, hflat, startCycle_eq, beforeCountDowns, (wakeAll_notices _).1, withChoice, (countDowns_notices _ _).1,
      (afterChoice_notices _).1, withChoice, (leaveHoldoffs_notices _ _).1, (afterChoice_notices _).1]
    rfl
  · rw [← hl, hflat, startCycle_eq, beforeCountDowns, (wakeAll_notices _).2, withChoice, (countDowns_notices _ _).2,
      (afterChoice_notices _).2, withChoice, (leaveHoldoffs_notices _ _).2, (afterChoice_notices _).2]
    rfl

theorem missReason_up {s : State} {i : Fin 4} (h : (s.lane i).state = .idle ∨ (s.lane i).state = .busy) (p : Fin 48) :
    missReason s i p =
      if (s.target (s.poll p).defn.target).state = .quarantined then some .quarantined
      else if p ∈ admittedOf (laneAdmission s i) then none else some .shed := by
  have hup : ¬((s.lane i).state ≠ .idle ∧ (s.lane i).state ≠ .busy) := by tauto
  rw [missReason, if_neg hup]

theorem missReason_down {s : State} {i : Fin 4} (h : ¬((s.lane i).state = .idle ∨ (s.lane i).state = .busy))
    (p : Fin 48) : missReason s i p = some .laneDown :=
  if_pos (not_or.1 h)

/-- The misses that a lane posts at a cycle start (R33), its due polls listed in any order. -/
theorem missTotals_cycleMisses (s : State) (i : Fin 4) {due : List (Fin 48)} (hdue : (duePolls s i).Perm due) :
    let quarantined : Fin 48 → Bool := fun p => (s.target (s.poll p).defn.target).state == .quarantined
    let up : Bool := (s.lane i).state == .idle || (s.lane i).state == .busy
    missTotals (cycleMisses s i) =
      { shed := if up then (due.filter fun p =>
          !quarantined p && !(admittedOf (laneAdmission s i)).contains p).length else 0
        late := min (s.lane i).workList.length 65535
        quarantined := if up then (due.filter quarantined).length else 0
        laneDown := if up then 0 else due.length } := by
  intro quarantined up
  have hlen : due.length ≤ 48 := by
    rw [← hdue.length_eq]
    exact (duePolls_nodup s i).length_le_card.trans (by simp)
  have hcount (q : Fin 48 → Bool) : min (0 + (duePolls s i).countP q) 65535 = due.countP q := by
    have := due.countP_le_length (p := q)
    rw [hdue.countP_eq]
    omega
  have hlate : (duePolls s i).countP (fun p => missReason s i p == some .late) = 0 := by
    rw [List.countP_eq_zero]
    intro p _
    unfold missReason
    split_ifs <;> simp
  rw [missTotals_eq]
  simp only [countP_cycleMisses, hlate, reduceCtorEq, if_false, if_true, hcount, Nat.add_zero]
  by_cases h : (s.lane i).state = .idle ∨ (s.lane i).state = .busy
  · have hup : up = true := by simpa [up] using h
    have hshed : (fun p => missReason s i p == some .shed) = fun p =>
        !quarantined p && !(admittedOf (laneAdmission s i)).contains p := by
      funext p
      rw [missReason_up h]
      by_cases hq : (s.target (s.poll p).defn.target).state = .quarantined <;>
        by_cases ha : p ∈ admittedOf (laneAdmission s i) <;> simp [quarantined, hq, ha]
    have hquar : (fun p => missReason s i p == some .quarantined) = quarantined := by
      funext p
      rw [missReason_up h]
      by_cases hq : (s.target (s.poll p).defn.target).state = .quarantined <;>
        by_cases ha : p ∈ admittedOf (laneAdmission s i) <;> simp [quarantined, hq, ha]
    have hdown : due.countP (fun p => missReason s i p == some .laneDown) = 0 := by
      rw [List.countP_eq_zero]
      intro p _
      rw [missReason_up h]
      split_ifs <;> simp
    rw [hshed, hquar, hdown, hup, List.countP_eq_length_filter, List.countP_eq_length_filter]
    rfl
  · have hup : up = false := by simpa [up] using h
    simp [missReason_down h, hup]

/-- Settles O15: the reasons of each entry's misses, and the postings of the lanes in some order. -/
theorem cycleStartCountsMisses : Obligations.CycleStartCountsMisses := by
  refine ⟨fun s c p hs late hlate => ?_, fun s c => ?_⟩
  · rw [startCycle_poll_of_inv hs c p late hlate, startCycle_workList]
    simp only [foldl_count_missReason, Poll.due_iff]
    rfl
  · intro due quarantined up misses postings
    have hmisses (i : Fin 4) : missTotals (cycleMisses { s with cycle := c } i) = misses i := by
      dsimp only [misses]
      rw [startCycle_workList]
      exact missTotals_cycleMisses _ i (duePolls_perm { s with cycle := c } i)
    have hpostings : cyclePostings { s with cycle := c } = postings := by
      funext i
      unfold cyclePostings
      simp only [List.isEmpty_iff, ← missTotals_eq_zero, hmisses]
      rfl
    rw [← hpostings]
    exact startCycle_notices c s

end Sys2Proof.Machine

/-! PROOF. The commands of cycles and polls: SET_CYCLE (R16), DEFINE_POLL with its checks and the definition it installs
(R23 to R25), DELETE_POLL (R26), SET_POLL_STATE (R27) and READ_POLL (R28), with the statements about them. -/

namespace Sys2Proof.Machine

/-! ### SET_CYCLE (R16) -/

theorem rangeField_eq_none {lo hi : Nat} {b : Byte} : rangeField lo hi b = none ↔ b.toNat < lo ∨ hi < b.toNat := by
  unfold rangeField
  split <;> simp <;> omega

theorem rangeField_eq_some {lo hi : Nat} {b : Byte} {n : Nat} :
    rangeField lo hi b = some n ↔ (lo ≤ b.toNat ∧ b.toNat ≤ hi) ∧ b.toNat = n := by
  unfold rangeField
  split <;> simp_all

theorem checkSetCycle_length {body : List Byte} (h : body.length ≠ 1) (s : State) :
    checkSetCycle body s = .error .badLength := by
  unfold checkSetCycle
  split
  · exact absurd rfl h
  · rfl

theorem checkSetCycle_one (i : Byte) (s : State) :
    checkSetCycle [i] s =
      if s.op ≠ .standby then .error .wrongState
      else if i.toNat < 1 ∨ 250 < i.toNat then .error .badValue
      else .ok i.toNat := by
  by_cases hop : s.op = .standby
  · by_cases hi : i.toNat < 1 ∨ 250 < i.toNat
    · simp only [checkSetCycle, OpState.legalInStandby, hop, rangeField_eq_none.2 hi, hi]
      rfl
    · have hrange : rangeField 1 250 i = some i.toNat := rangeField_eq_some.2 (by omega)
      simp only [checkSetCycle, OpState.legalInStandby, hop, hrange, hi]
      rfl
  · simp [checkSetCycle, OpState.legalInStandby, hop]

theorem exec_setCycle {s : State} {tag : Byte} (h : Admits s tag) (body : List Byte) :
    exec (.setCycle tag body) s = .next (arbitrate (runSetCycle tag body (admitted tag s))) := hostCommand_admitted h

/-- Settles O22, by the three checks of R16 in their order. -/
theorem setCycleSetsInterval : Obligations.SetCycleSetsInterval := by
  intro s tag hadm _
  refine ⟨fun body h => ?_, fun interval => ?_⟩
  · rw [exec_setCycle hadm, runSetCycle, checkSetCycle_length h, carryOut_error]
    rfl
  · rw [exec_setCycle hadm, runSetCycle, checkSetCycle_one, carryOut_check, carryOut_check, carryOut_ok]
    rfl

/-! ### An entry leaves its work list, and its definition ends (R25 to R27) -/

/-- An entry leaves the work list of one lane, which is told (R43). -/
theorem unlistPoll_lane (p : Fin 48) (s : State) (i : Fin 4) :
    (if (s.lane i).workList.contains p then wakeLane i (s.setLane i ((s.lane i).dropPoll p)) else s) =
      s.setLane i (unlisted s.op p (s.lane i)) := by
  rw [wakeLane_setLane, unlisted]
  by_cases h : p ∈ (s.lane i).workList
  · simp only [List.contains_iff_mem, h, if_true]
    rfl
  · simp [h]

/-- An entry is taken off the work lists of all lanes (R26, R27). -/
theorem unlistPoll_eq (p : Fin 48) (s : State) :
    unlistPoll p s = { s with lanes := s.lanes.map (unlisted s.op p) } := by
  have hfin : List.finRange 4 = [0, 1, 2, 3] := by decide
  have hlanes : (unlistPoll p s).lanes = s.lanes.map (unlisted s.op p) := by
    ext i
    simp only [unlistPoll, hfin, List.foldl_cons, List.foldl_nil, unlistPoll_lane, State.setLane_op]
    change State.lane _ i = _
    fin_cases i <;> simp [State.setLane_lane] <;> rfl
  rw [unlistPoll_frame, hlanes]

theorem Transaction.definitionEnds_eq (x : Transaction) (p : Fin 48) (s : State) :
    (x.definitionEnds p fun l => (s.line l).boundPoll) = definitionEndMark s p x := by
  unfold Transaction.definitionEnds definitionEndMark
  cases x.work <;> rfl

/-- The definition of an entry ends on every lane (R25, R26). -/
theorem unlistPoll_markDefinitionEnd (p : Fin 48) (s : State) :
    unlistPoll p (markDefinitionEnd p s) = { s with lanes := s.lanes.map (definitionEnded s p) } := by
  have hlanes : (s.lanes.map fun l => { l with txn := l.txn.map (definitionEndMark s p) }).map (unlisted s.op p) =
      s.lanes.map (definitionEnded s p) := by
    ext i
    simp only [Table.get_map]
    rfl
  rw [unlistPoll_eq, ← hlanes]
  simp only [markDefinitionEnd, Transaction.definitionEnds_eq]

theorem alertBound_iff (s : State) (p : Fin 48) :
    alertBound s p = true ↔ ∃ l, (s.line l).enabled = true ∧ (s.line l).boundPoll = p := by
  unfold alertBound
  rw [Table.any_toList]
  simp [State.line]

/-! ### DELETE_POLL (R26) -/

theorem exec_deletePoll {s : State} {tag : Byte} (h : Admits s tag) (body : List Byte) :
    exec (.deletePoll tag body) s = .next (arbitrate (runDeletePoll tag body (admitted tag s))) :=
  hostCommand_admitted h

theorem checkDeletePoll_byte (p : Fin 48) {s : State} (hop : s.op ≠ .init) :
    checkDeletePoll [byte p.val] s =
      if (s.poll p).state = .free then .error .noEntry
      else if alertBound s p then .error .inUse
      else .ok p := by
  rw [checkDeletePoll, checkIndex_byte (by decide) p hop]

theorem checkDeletePoll_out_of_range {b : Byte} (hb : 48 ≤ b.toNat) {s : State} (hop : s.op ≠ .init) :
    checkDeletePoll [b] s = .error .badValue := by
  rw [checkDeletePoll, checkIndex_out_of_range hb hop]

/-! ### SET_POLL_STATE (R27) -/

theorem exec_setPollStatePause {s : State} {tag : Byte} (h : Admits s tag) (p : Byte) (rest : List Byte) :
    exec (.setPollStatePause tag p rest) s =
      .next (arbitrate (runSetPollState tag (p :: 0x00 :: rest) (admitted tag s))) := hostCommand_admitted h

theorem exec_setPollStateResume {s : State} {tag : Byte} (h : Admits s tag) (p : Byte) (rest : List Byte) :
    exec (.setPollStateResume tag p rest) s =
      .next (arbitrate (runSetPollState tag (p :: 0x01 :: rest) (admitted tag s))) := hostCommand_admitted h

theorem checkSetPollState_out_of_range {b : Byte} (hb : 48 ≤ b.toNat) (action : Byte) {s : State}
    (hop : s.op ≠ .init) : checkSetPollState [b, action] s = .error .badValue := by
  simp [checkSetPollState, OpState.legalAlways_of_ne_init hop, indexField_eq_none.2 hb]

theorem checkSetPollState_byte (p : Fin 48) {action : Byte} {resume : Bool} (ha : yesNoField action = some resume)
    {s : State} (hop : s.op ≠ .init) :
    checkSetPollState [byte p.val, action] s =
      if (s.poll p).state = .free then .error .noEntry else .ok (p, resume) := by
  simp [checkSetPollState, OpState.legalAlways_of_ne_init hop, indexField_byte, ha]

theorem runSetPollState_free {p : Fin 48} {action : Byte} {resume : Bool} (ha : yesNoField action = some resume)
    {s : State} (hop : s.op ≠ .init) (hfree : (s.poll p).state = .free) (tag : Byte) :
    runSetPollState tag [byte p.val, action] (admitted tag s) = denied tag 0x8A 0x08 s := by
  rw [runSetPollState, checkSetPollState_byte p ha (s := admitted tag s) hop, admitted_poll, if_pos hfree,
    carryOut_error]
  rfl

theorem runSetPollState_pause {p : Fin 48} {s : State} (hop : s.op ≠ .init) (hbound : (s.poll p).state ≠ .free)
    (tag : Byte) :
    runSetPollState tag [byte p.val, 0x00] (admitted tag s) =
      replied tag 0x8A [0x00, byte p.val, 0x02]
        { admitted tag s with polls := s.polls.set p { s.poll p with state := .paused }
                              lanes := s.lanes.map (unlisted s.op p) } := by
  rw [runSetPollState, checkSetPollState_byte p (resume := false) rfl (s := admitted tag s) hop, admitted_poll,
    if_neg hbound, carryOut_ok]
  simp only [Bool.false_eq_true, if_false, pausePoll, unlistPoll_eq]
  rfl

theorem runSetPollState_resume {p : Fin 48} {s : State} (hop : s.op ≠ .init) (hbound : (s.poll p).state ≠ .free)
    (tag : Byte) :
    runSetPollState tag [byte p.val, 0x01] (admitted tag s) =
      replied tag 0x8A [0x00, byte p.val, 0x01]
        { admitted tag s with polls := s.polls.set p { s.poll p with state := .active } } := by
  rw [runSetPollState, checkSetPollState_byte p (resume := true) rfl (s := admitted tag s) hop, admitted_poll,
    if_neg hbound, carryOut_ok]
  rfl

/-- Settles O24, by the checks of R26 and R27 in their order. -/
theorem deletePauseAndResumePoll : Obligations.DeletePauseAndResumePoll := by
  refine ⟨fun s tag hadm hop => ⟨fun b hb => ?_, fun p => ?_⟩,
    fun s tag hadm hop => ⟨fun b hb => ?_, fun p hfree => ?_, fun p hbound => ?_⟩⟩
  · rw [exec_deletePoll hadm, runDeletePoll, checkDeletePoll_out_of_range hb (s := admitted tag s) hop, carryOut_error]
    rfl
  · rw [exec_deletePoll hadm, runDeletePoll, checkDeletePoll_byte p (s := admitted tag s) hop, carryOut_check,
      carryOut_check, carryOut_ok]
    refine next_arbitrate_congr (ite_congr rfl (fun _ => rfl) fun _ =>
      ite_congr (propext (alertBound_iff s p)) (fun _ => rfl) fun _ => ?_)
    rw [deletePoll, unlistPoll_markDefinitionEnd]
    rfl
  · rw [exec_setPollStatePause hadm, exec_setPollStateResume hadm, runSetPollState, runSetPollState,
      checkSetPollState_out_of_range hb _ (s := admitted tag s) hop,
      checkSetPollState_out_of_range hb _ (s := admitted tag s) hop]
    exact ⟨rfl, rfl⟩
  · rw [exec_setPollStatePause hadm, exec_setPollStateResume hadm, runSetPollState_free rfl hop hfree,
      runSetPollState_free rfl hop hfree]
    exact ⟨rfl, rfl⟩
  · rw [exec_setPollStatePause hadm, exec_setPollStateResume hadm, runSetPollState_pause hop hbound,
      runSetPollState_resume hop hbound]
    exact ⟨rfl, rfl⟩

/-! ### The fields of DEFINE_POLL (R23 check 3) -/

theorem rangeField_byte {lo hi n : Nat} (hlo : lo ≤ n) (hhi : n ≤ hi) (h : n < 256) :
    rangeField lo hi (byte n) = some n :=
  rangeField_eq_some.2 (by rw [byte_toNat h]; exact ⟨⟨hlo, hhi⟩, rfl⟩)

theorem yesNoField_of_lt {b : Byte} (h : b.toNat < 2) : yesNoField b = some (b == 0x01) := by
  have hb : b = 0x00 ∨ b = 0x01 := by
    have : b.toNat = 0 ∨ b.toNat = 1 := by omega
    exact this.imp (fun e => BitVec.eq_of_toNat_eq e) (fun e => BitVec.eq_of_toNat_eq e)
  rcases hb with rfl | rfl <;> rfl

theorem lt_of_yesNoField {b : Byte} {v : Bool} (h : yesNoField b = some v) : b.toNat < 2 := by
  unfold yesNoField at h
  split_ifs at h with h0 h1
  · simp [h0]
  · simp [h1]

theorem lt_of_valueOrderField {b : Byte} {v : ValueOrder} (h : valueOrderField b = some v) : b.toNat < 2 := by
  unfold valueOrderField at h
  split_ifs at h with h0 h1
  · simp [h0]
  · simp [h1]

theorem valueOrderField_of_lt {b : Byte} (h : b.toNat < 2) :
    valueOrderField b = some (if b = 0x01 then .little else .big) := by
  have hb : b = 0x00 ∨ b = 0x01 := by
    have : b.toNat = 0 ∨ b.toNat = 1 := by omega
    exact this.imp (fun e => BitVec.eq_of_toNat_eq e) (fun e => BitVec.eq_of_toNat_eq e)
  rcases hb with rfl | rfl <;> rfl

theorem reportModeField_eq_some {b : Byte} {m : ReportMode} : reportModeField b = some m ↔ b = m.code := by
  unfold reportModeField
  cases m <;> split_ifs <;> simp_all [ReportMode.code]

theorem initialStateField_eq_some {b : Byte} {st : PollState} :
    initialStateField b = some st ↔ b = st.code ∧ st ≠ .free := by
  unfold initialStateField
  cases st <;> split_ifs <;> simp_all [PollState.code]

/-- A register address is read back from its two bytes (12.4). -/
theorem registerField_word (r : Word16) :
    registerField (BitVec.ofNat 8 (r.toNat / 256)) (BitVec.ofNat 8 r.toNat) = r := by
  apply BitVec.eq_of_toNat_eq
  have := r.isLt
  simp only [registerField, BitVec.toNat_append, BitVec.toNat_ofNat]
  rw [← Nat.shiftLeft_add_eq_or_of_lt (by omega), Nat.shiftLeft_eq]
  omega

/-- Threshold, Value Order and Byte Count are checked together, in DELTA mode with the narrower ranges (R23). -/
theorem deltaFields_eq_some (mode : ReportMode) (th1 th0 order n : Byte) (hn : 1 ≤ n.toNat ∧ n.toNat ≤ 32)
    (hdelta : mode = .delta →
      1 ≤ wordField th1 th0 ∧ wordField th1 th0 ≤ 32767 ∧ order.toNat < 2 ∧ 2 ≤ n.toNat) :
    thresholdField mode th1 th0 = some (if mode = .delta then wordField th1 th0 else 0) ∧
      orderField mode order = some (if mode = .delta ∧ order = 0x01 then .little else .big) ∧
      pollCountField mode n = some n.toNat := by
  cases mode with
  | every | change => exact ⟨rfl, rfl, rangeField_eq_some.2 ⟨hn, rfl⟩⟩
  | delta =>
    obtain ⟨hlo, hhi, horder, hcount⟩ := hdelta rfl
    refine ⟨if_pos ⟨hlo, hhi⟩, ?_, rangeField_eq_some.2 ⟨⟨hcount, hn.2⟩, rfl⟩⟩
    simp [orderField, valueOrderField_of_lt horder]

/-- What a DEFINE_POLL request that passes the range checks holds (R23 check 3). -/
theorem decodePoll_eq_some {p t r1 r0 n e phase mode th1 th0 order keep initial : Byte} {q : PollRequest}
    (h : decodePoll p t r1 r0 n e phase mode th1 th0 order keep initial = some q) :
    indexField 48 p = some q.poll ∧ indexField 32 t = some q.defn.target ∧
      (1 ≤ n.toNat ∧ n.toNat ≤ 32) ∧ indexField 8 e = some q.defn.periodExponent ∧
      rangeField 0 (2 ^ q.defn.periodExponent.val - 1) phase = some q.defn.phase ∧
      reportModeField mode = some q.defn.mode ∧
      thresholdField q.defn.mode th1 th0 = some q.defn.threshold ∧
      orderField q.defn.mode order = some q.defn.order ∧
      pollCountField q.defn.mode n = some q.defn.byteCount ∧
      yesNoField keep = some q.defn.keepLatest ∧
      initialStateField initial = some q.initial := by
  simp only [decodePoll, Option.bind_eq_bind, Option.bind_eq_some_iff, Option.pure_def, Option.some.injEq] at h
  obtain ⟨p', hp, t', ht, n', hn, e', he, phase', hphase, mode', hmode, th', hth, order', horder, c', hc, keep', hkeep,
    initial', hinitial, rfl⟩ := h
  exact ⟨hp, ht, (rangeField_eq_some.1 hn).1, he, hphase, hmode, hth, horder, hc, hkeep, hinitial⟩

theorem checkDefinePoll_of_some {p t r1 r0 n e phase mode th1 th0 order keep initial : Byte} {q : PollRequest}
    (hq : decodePoll p t r1 r0 n e phase mode th1 th0 order keep initial = some q) {s : State} (hop : s.op ≠ .init) :
    checkDefinePoll [p, t, r1, r0, n, e, phase, mode, th1, th0, order, keep, initial] s = checkPollRefs q s := by
  simp only [checkDefinePoll, OpState.legalAlways_of_ne_init hop, if_true, hq]

theorem checkDefinePoll_of_none {p t r1 r0 n e phase mode th1 th0 order keep initial : Byte}
    (hq : decodePoll p t r1 r0 n e phase mode th1 th0 order keep initial = none) {s : State} (hop : s.op ≠ .init) :
    checkDefinePoll [p, t, r1, r0, n, e, phase, mode, th1, th0, order, keep, initial] s = .error .badValue := by
  simp only [checkDefinePoll, OpState.legalAlways_of_ne_init hop, if_true, hq]

/-- The range checks of DEFINE_POLL (R23 check 3). -/
theorem checkDefinePoll_out_of_range {p t r1 r0 n e phase mode th1 th0 order keep initial : Byte}
    (h : ¬ (p.toNat < 48 ∧ t.toNat < 32 ∧ (1 ≤ n.toNat ∧ n.toNat ≤ 32) ∧ e.toNat < 8 ∧ phase.toNat < 2 ^ e.toNat ∧
      mode.toNat < 3 ∧
      (mode = 0x02 → (1 ≤ th1.toNat * 256 + th0.toNat ∧ th1.toNat * 256 + th0.toNat ≤ 32767) ∧ order.toNat < 2 ∧
        2 ≤ n.toNat) ∧
      keep.toNat < 2 ∧ (initial = 0x01 ∨ initial = 0x02))) {s : State} (hop : s.op ≠ .init) :
    checkDefinePoll [p, t, r1, r0, n, e, phase, mode, th1, th0, order, keep, initial] s = .error .badValue := by
  cases hq : decodePoll p t r1 r0 n e phase mode th1 th0 order keep initial with
  | none => exact checkDefinePoll_of_none hq hop
  | some q =>
    obtain ⟨hp, ht, hn, he, hphase, hmode, hth, horder, hc, hkeep, hinitial⟩ := decodePoll_eq_some hq
    refine absurd ⟨lt_of_indexField hp, lt_of_indexField ht, hn, lt_of_indexField he, ?_, ?_, ?_,
      lt_of_yesNoField hkeep, ?_⟩ h
    · obtain ⟨⟨_, hle⟩, _⟩ := rangeField_eq_some.1 hphase
      have hpos := Nat.two_pow_pos q.defn.periodExponent.val
      have hev : q.defn.periodExponent.val = e.toNat := by
        unfold indexField at he
        split_ifs at he
        exact congrArg Fin.val (Option.some.inj he).symm
      rw [← hev]
      omega
    · obtain rfl := reportModeField_eq_some.1 hmode
      cases q.defn.mode <;> decide
    · intro hdelta
      have hm : q.defn.mode = .delta := by
        rw [hdelta] at hmode
        exact (Option.some.inj hmode).symm
      rw [hm] at hth horder hc
      unfold thresholdField at hth
      dsimp only at hth
      split_ifs at hth with hrange
      exact ⟨hrange, lt_of_valueOrderField horder, (rangeField_eq_some.1 hc).1.1⟩
    · obtain ⟨rfl, hfree⟩ := initialStateField_eq_some.1 hinitial
      cases hst : q.initial with
      | free => exact absurd hst hfree
      | active => exact .inl rfl
      | paused => exact .inr rfl

theorem decodePoll_in_range (p : Fin 48) (t : Fin 32) (register : Word16) {n : Nat} (e : Fin 8) {phase : Nat}
    (mode : ReportMode) (th1 th0 order keep : Byte) {initial : PollState} (h1 : 1 ≤ n) (h32 : n ≤ 32)
    (hphase : phase < 2 ^ e.val) (hkeep : keep.toNat < 2) (hinitial : initial ≠ .free)
    (hdelta : mode = .delta → 1 ≤ wordField th1 th0 ∧ wordField th1 th0 ≤ 32767 ∧ order.toNat < 2 ∧ 2 ≤ n) :
    decodePoll (byte p.val) (byte t.val) (BitVec.ofNat 8 (register.toNat / 256)) (BitVec.ofNat 8 register.toNat)
        (byte n) (byte e.val) (byte phase) mode.code th1 th0 order keep initial.code =
      some ⟨p, ⟨t, register, n, e, phase, mode, if mode = .delta then wordField th1 th0 else 0,
        if mode = .delta ∧ order = 0x01 then .little else .big, keep == 0x01⟩, initial⟩ := by
  have hn : (byte n).toNat = n := byte_toNat (by omega)
  have hpow : 2 ^ e.val ≤ 2 ^ 7 := Nat.pow_le_pow_right (by decide) (by omega)
  obtain ⟨hth, horder, hc⟩ := deltaFields_eq_some mode th1 th0 order (byte n) (by omega) (by rwa [hn])
  simp [decodePoll, indexField_byte, rangeField_byte h1 h32 (by omega),
    rangeField_byte (lo := 0) (hi := 2 ^ e.val - 1) (n := phase) (by omega) (by omega) (by omega),
    reportModeField_eq_some.2 rfl, hth, horder, hc, hn, yesNoField_of_lt hkeep,
    initialStateField_eq_some.2 ⟨rfl, hinitial⟩, registerField_word, -BitVec.ofNat_toNat]

/-- A Register does not fit the target's Register Width `w` when it is 256 to the power of `w` or more (R23 check 4). -/
theorem registerFits_eq_false (width : Fin 3) (register : Word16) :
    registerFits width register = false ↔ 256 ^ width.val ≤ register.toNat := by
  have := register.isLt
  fin_cases width
  · simp [registerFits]
    omega
  · simp [registerFits]
  · simpa [registerFits] using this

theorem exec_definePoll {s : State} {tag : Byte} (h : Admits s tag) (body : List Byte) :
    exec (.definePoll tag body) s = .next (arbitrate (runDefinePoll tag body (admitted tag s))) :=
  hostCommand_admitted h

/-- An accepted DEFINE_POLL (R24, R25). -/
theorem definePoll_eq (tag : Byte) (q : PollRequest) (s : State) :
    definePoll tag q s =
      replied tag 0x88 [0x00, byte q.poll.val, (s.poll q.poll).generation + 1]
        { s with polls := s.polls.set q.poll ((s.poll q.poll).defined q)
                 lanes := s.lanes.map (definitionEnded s q.poll) } := by
  rw [definePoll, unlistPoll_markDefinitionEnd]
  rfl

/-- Settles O23, by the range checks and then the reference checks of R23 in their order. -/
theorem definePollInstallsDefinition : Obligations.DefinePollInstallsDefinition := by
  refine ⟨fun s tag p t r1 r0 n e phase mode th1 th0 order keep initial hadm hop h => ?_,
    fun s tag p t register n e phase mode th1 th0 order keep initial hadm hop h1 h32 hphase hkeep hinitial hdelta
      defn hdefn => ?_⟩
  · rw [exec_definePoll hadm, runDefinePoll, checkDefinePoll_out_of_range h (s := admitted tag s) hop, carryOut_error]
    rfl
  · have hdecode := decodePoll_in_range p t register e mode th1 th0 order keep h1 h32 hphase hkeep hinitial hdelta
    have hbody : [byte p.val, byte t.val] ++ word register.toNat
        ++ [byte n, byte e.val, byte phase, mode.code, th1, th0, order, keep, initial.code] =
      [byte p.val, byte t.val, BitVec.ofNat 8 (register.toNat / 256), BitVec.ofNat 8 register.toNat, byte n,
        byte e.val, byte phase, mode.code, th1, th0, order, keep, initial.code] := rfl
    have hq : (⟨p, ⟨t, register, n, e, phase, mode, if mode = .delta then wordField th1 th0 else 0,
        if mode = .delta ∧ order = 0x01 then .little else .big, keep == 0x01⟩, initial⟩ : PollRequest) =
      ⟨p, defn, initial⟩ := by rw [hdefn]; rfl
    rw [hq] at hdecode
    rw [hbody, exec_definePoll hadm, runDefinePoll, checkDefinePoll_of_some hdecode (s := admitted tag s) hop,
      checkPollRefs, carryOut_check, carryOut_check, carryOut_check, carryOut_ok, definePoll_eq]
    subst hdefn
    refine next_arbitrate_congr (ite_congr rfl (fun _ => rfl) fun _ =>
      ite_congr (propext (registerFits_eq_false _ register)) (fun _ => rfl) fun _ =>
        ite_congr (propext (and_congr_left' (alertBound_iff s p))) (fun _ => rfl) fun _ => rfl)

/-! ### READ_POLL (R28) -/

/-- How a running transaction uses an entry (R28), as the conditions of READ_POLL's Running. -/
theorem Transaction.useOf_eq (x : Transaction) (p : Fin 48) (s : State) :
    (x.useOf p s = 0x01 ↔ x.work = .poll p ∧ x.discarded = false) ∧
      (x.useOf p s = 0x02 ↔ ∃ l, x.work = .alert l ∧ (s.line l).boundPoll = p ∧ x.definitionGone = false) ∧
      (x.useOf p s = 0x05 ↔ x.work = .poll p ∧ x.discarded = true) := by
  unfold Transaction.useOf
  cases x.work with
  | poll q => by_cases hq : q = p <;> cases x.discarded <;> simp [hq]
  | alert l => by_cases hl : (s.line l).boundPoll = p ∧ x.definitionGone = false <;> simp [hl]
  | job j => simp
  | probe => simp

/-- Some running transaction uses an entry in a given way. -/
theorem uses_contains_iff (s : State) (p : Fin 48) (use : Byte) :
    ((s.lanes.toList.filterMap fun l => l.txn).map fun x => x.useOf p s).contains use = true ↔
      ∃ i, ∃ x ∈ (s.lane i).txn, x.useOf p s = use := by
  simp only [State.lanes_toList, List.contains_iff_mem, List.mem_map, List.mem_filterMap, List.mem_finRange, true_and,
    Option.mem_def]
  constructor
  · rintro ⟨x, ⟨_, ⟨i, rfl⟩, hx⟩, rfl⟩
    exact ⟨i, x, hx, rfl⟩
  · rintro ⟨i, x, hx, rfl⟩
    exact ⟨x, ⟨_, ⟨i, rfl⟩, hx⟩, rfl⟩

theorem pollRunning_eq (s : State) (p : Fin 48) :
    pollRunning s p =
      if ∃ i, ∃ x ∈ (s.lane i).txn, x.work = .poll p ∧ x.discarded = false then 0x01
      else if ∃ l, ∃ i, ∃ x ∈ (s.lane i).txn, x.work = .alert l ∧ (s.line l).boundPoll = p ∧
          x.definitionGone = false then 0x02
      else if ∃ i, ∃ x ∈ (s.lane i).txn, x.work = .poll p then 0x05 else 0x00 := by
  have huse (x : Transaction) := x.useOf_eq p s
  unfold pollRunning
  refine ite_congr (propext ?scheduled) (fun _ => rfl) fun hnone =>
    ite_congr (propext ?alert) (fun _ => rfl) fun _ => ite_congr (propext ?marked) (fun _ => rfl) fun _ => rfl
  case scheduled => simp only [uses_contains_iff, (huse _).1]
  case alert =>
    simp only [uses_contains_iff, (huse _).2.1]
    constructor
    · rintro ⟨i, x, hx, l, h⟩
      exact ⟨l, i, x, hx, h⟩
    · rintro ⟨l, i, x, hx, h⟩
      exact ⟨i, x, hx, l, h⟩
  case marked =>
    simp only [uses_contains_iff, (huse _).2.2] at hnone ⊢
    constructor
    · rintro ⟨i, x, hx, hwork, _⟩
      exact ⟨i, x, hx, hwork⟩
    · rintro ⟨i, x, hx, hwork⟩
      refine ⟨i, x, hx, hwork, ?_⟩
      by_contra hd
      exact hnone ⟨i, x, hx, hwork, by simpa using hd⟩

theorem onWorkList_iff (s : State) (p : Fin 48) : onWorkList s p = true ↔ ∃ i, p ∈ (s.lane i).workList := by
  unfold onWorkList
  rw [Table.any_toList]
  simp [State.lane]

theorem flag_onWorkList (s : State) (p : Fin 48) :
    flag (onWorkList s p) = if ∃ i, p ∈ (s.lane i).workList then 0x01 else 0x00 :=
  ite_congr (propext (onWorkList_iff s p)) (fun _ => rfl) fun _ => rfl

theorem exec_readPoll {s : State} {tag : Byte} (h : Admits s tag) (body : List Byte) :
    exec (.readPoll tag body) s = .next (arbitrate (runReadPoll tag body (admitted tag s))) := hostCommand_admitted h

theorem snapshotFields_eq (n : Snapshot) :
    snapshotFields n =
      [if n.valid then 0x01 else 0x00, if n.valid then n.lastStatus.code else 0x00, byte n.lastData.length]
        ++ (if n.valid then n.lastData else List.replicate n.lastData.length 0) := by
  unfold snapshotFields
  cases n.valid <;> rfl

theorem laneAndCost_eq (s : State) (p : Fin 48) :
    laneAndCost s p =
      if (s.poll p).state = .free then [0, 0]
      else [byte (s.target (s.poll p).defn.target).lane.val,
        byte (if (s.target (s.poll p).defn.target).width = 0 then (s.poll p).defn.byteCount + 2
          else (s.target (s.poll p).defn.target).width.val + (s.poll p).defn.byteCount + 4)] := by
  simp only [laneAndCost, pollLane, pollCost, costOf, Fin.ext_iff]
  rfl

theorem boundLineFields_eq (s : State) (p : Fin 48) :
    boundLineFields s p =
      byte ((List.finRange 8).countP fun l => (s.line l).enabled && (s.line l).boundPoll == p) ::
        ((List.finRange 8).filter fun l => (s.line l).enabled && (s.line l).boundPoll == p).map fun l =>
          byte l.val := by
  rw [boundLineFields, List.countP_eq_length_filter]

/-- The reply of READ_POLL does not look at what admission changes. -/
theorem readPoll_admitted (tag : Byte) (s : State) (p : Fin 48) :
    laneAndCost (admitted tag s) p = laneAndCost s p ∧ onWorkList (admitted tag s) p = onWorkList s p ∧
      pollRunning (admitted tag s) p = pollRunning s p ∧ boundLineFields (admitted tag s) p = boundLineFields s p :=
  ⟨rfl, rfl, rfl, rfl⟩

/-- Settles O25: the fields of the reply in the order of R28. -/
theorem readPollReportsEntry : Obligations.ReadPollReportsEntry := by
  intro s tag hadm hop
  refine ⟨fun b hb => ?_, ?_⟩
  · rw [exec_readPoll hadm, runReadPoll, checkIndex_out_of_range hb (s := admitted tag s) hop, carryOut_error]
    rfl
  · rintro p _ rfl _ rfl _ rfl
    obtain ⟨hlane, hlist, hrun, hlines⟩ := readPoll_admitted tag s p
    rw [exec_readPoll hadm, runReadPoll, checkIndex_byte (by decide) p (s := admitted tag s) hop, carryOut_ok,
      answer_eq_replied, admitted_poll, hlane, hlist, hrun, hlines, ← pollRunning_eq, ← flag_onWorkList,
      ← laneAndCost_eq, boundLineFields_eq, snapshotFields_eq]
    refine next_arbitrate_congr (congrArg (fun b => replied tag 0x8B b (admitted tag s)) ?_)
    simp [pollFields, pollCounterFields, missFields, flag]

end Sys2Proof.Machine

/-! PROOF. The smaller invariants (R29, R19, R4, R122, R17, R40, R130, R138, R136): what a happening may change of the
fields they speak of, each shared operation by that measure, and the step lemma. -/

namespace Sys2Proof.Machine

/-! ### Entries whose part in the invariants stays -/

/-- The entry stays bound, or FREE, at its lane and bus address. -/
structure Target.SameBinding (a b : Target) : Prop where
  lane : b.lane = a.lane
  busAddress : b.busAddress = a.busAddress
  free : b.state = .free ↔ a.state = .free

theorem Target.SameBinding.refl (a : Target) : a.SameBinding a := ⟨rfl, rfl, Iff.rfl⟩

theorem Target.SameBinding.trans {a b c : Target} (hab : a.SameBinding b) (hbc : b.SameBinding c) :
    a.SameBinding c where
  lane := hbc.lane.trans hab.lane
  busAddress := hbc.busAddress.trans hab.busAddress
  free := hbc.free.trans hab.free

/-- The entry keeps its State and its definition (R19). -/
structure Poll.SameDefinition (a b : Poll) : Prop where
  state : b.state = a.state
  defn : b.defn = a.defn

theorem Poll.SameDefinition.refl (a : Poll) : a.SameDefinition a := ⟨rfl, rfl⟩

theorem Poll.SameDefinition.trans {a b c : Poll} (hab : a.SameDefinition b) (hbc : b.SameDefinition c) :
    a.SameDefinition c where
  state := hbc.state.trans hab.state
  defn := hbc.defn.trans hab.defn

/-- The lane keeps its settings with C and B (R36), its R stays within C (R40), and polls only leave its work list
(R29). -/
structure Lane.SameSettings (a b : Lane) : Prop where
  speed : b.speed = a.speed
  stretchLimit : b.stretchLimit = a.stretchLimit
  pollShare : b.pollShare = a.pollShare
  capacity : b.capacity = a.capacity
  budget : b.budget = a.budget
  remaining : a.remaining ≤ a.capacity → b.remaining ≤ b.capacity
  workList : b.workList.Sublist a.workList

theorem Lane.SameSettings.refl (a : Lane) : a.SameSettings a := ⟨rfl, rfl, rfl, rfl, rfl, id, .refl _⟩

theorem Lane.SameSettings.trans {a b c : Lane} (hab : a.SameSettings b) (hbc : b.SameSettings c) :
    a.SameSettings c where
  speed := hbc.speed.trans hab.speed
  stretchLimit := hbc.stretchLimit.trans hab.stretchLimit
  pollShare := hbc.pollShare.trans hab.pollShare
  capacity := hbc.capacity.trans hab.capacity
  budget := hbc.budget.trans hab.budget
  remaining := hbc.remaining ∘ hab.remaining
  workList := hbc.workList.trans hab.workList

theorem Lane.SameButTiers.sameSettings {a b : Lane} : a.SameButTiers b → a.SameSettings b := by
  rintro ⟨_, _, _, rfl⟩
  exact { Lane.SameSettings.refl a with }

/-! ### States whose part in the invariants stays -/

/-- From `s` to `u` nothing happens that the smaller invariants could object to: entries stay bound and defined, lanes
keep their settings, and the Notice Queue and the Host Port stay sound. -/
structure Steady (s u : State) : Prop where
  interval : u.interval = s.interval
  targets : ∀ t, (s.target t).SameBinding (u.target t)
  polls : ∀ p, (s.poll p).SameDefinition (u.poll p)
  lanes : ∀ i, (s.lane i).SameSettings (u.lane i)
  notices : NoticeInv s → NoticeInv u
  port : PortInv s → PortInv u

theorem Steady.refl (s : State) : Steady s s := ⟨rfl, fun _ => .refl _, fun _ => .refl _, fun _ => .refl _, id, id⟩

theorem Steady.trans {s t u : State} (hst : Steady s t) (htu : Steady t u) : Steady s u where
  interval := htu.interval.trans hst.interval
  targets k := (hst.targets k).trans (htu.targets k)
  polls k := (hst.polls k).trans (htu.polls k)
  lanes k := (hst.lanes k).trans (htu.lanes k)
  notices := htu.notices ∘ hst.notices
  port := htu.port ∘ hst.port

/-- The invariants of the work lists, the bindings, the Notice Queue, the capacities and the port that hold of `s` hold
of `u`, each for itself. -/
structure KeepsSmall (s u : State) : Prop where
  schedule : ScheduleInv s → ScheduleInv u
  binding : BindingInv s → BindingInv u
  notice : NoticeInv s → NoticeInv u
  capacity : CapacityInv s → CapacityInv u
  port : PortInv s → PortInv u

theorem KeepsSmall.refl (s : State) : KeepsSmall s s := ⟨id, id, id, id, id⟩

theorem KeepsSmall.trans {s t u : State} (hst : KeepsSmall s t) (htu : KeepsSmall t u) : KeepsSmall s u where
  schedule := htu.schedule ∘ hst.schedule
  binding := htu.binding ∘ hst.binding
  notice := htu.notice ∘ hst.notice
  capacity := htu.capacity ∘ hst.capacity
  port := htu.port ∘ hst.port

/-- Entries that stay bound and defined and work lists that only lose polls keep the schedule in order. -/
theorem ScheduleInv.of_same {s u : State} (ht : ∀ t, (s.target t).SameBinding (u.target t))
    (hp : ∀ p, (s.poll p).SameDefinition (u.poll p))
    (hl : ∀ i, (u.lane i).workList.Sublist (s.lane i).workList) (h : ScheduleInv s) : ScheduleInv u := by
  obtain ⟨hdefined, hlists⟩ := h
  refine ⟨fun p hstate => ?_, fun i => ?_⟩
  · rw [(hp p).state] at hstate
    obtain ⟨hrange, hbound⟩ := hdefined p hstate
    rw [(hp p).defn]
    exact ⟨hrange, fun hfree => hbound ((ht _).free.1 hfree)⟩
  · obtain ⟨hnodup, hlisted⟩ := hlists i
    refine ⟨hnodup.sublist (hl i), fun p hmem => ?_⟩
    obtain ⟨hactive, hlane⟩ := hlisted p ((hl i).subset hmem)
    rw [(hp p).state, pollLane, (hp p).defn, (ht _).lane]
    exact ⟨hactive, hlane⟩

theorem BindingInv.of_same {s u : State} (ht : ∀ t, (s.target t).SameBinding (u.target t)) (h : BindingInv s) :
    BindingInv u := by
  intro t k hne htf hkf
  rw [(ht t).lane, (ht k).lane, (ht t).busAddress, (ht k).busAddress]
  exact h t k hne (mt (ht t).free.2 htf) (mt (ht k).free.2 hkf)

theorem CapacityInv.of_same {s u : State} (hi : u.interval = s.interval)
    (hl : ∀ i, (s.lane i).SameSettings (u.lane i)) (h : CapacityInv s) : CapacityInv u := by
  obtain ⟨hlo, hhi, hlanes⟩ := h
  refine ⟨hi ▸ hlo, hi ▸ hhi, fun i => ?_⟩
  obtain ⟨hs1, hs2, hp1, hp2, hc, hb, hr⟩ := hlanes i
  have hsame := hl i
  rw [hsame.stretchLimit, hsame.pollShare, hsame.budget, hi, hsame.speed]
  refine ⟨hs1, hs2, hp1, hp2, ?_, ?_, hsame.remaining hr⟩ <;> rw [hsame.capacity]
  · exact hc
  · exact hb

theorem Steady.keeps {s u : State} (h : Steady s u) : KeepsSmall s u where
  schedule := .of_same h.targets h.polls fun i => (h.lanes i).workList
  binding := .of_same h.targets
  notice := h.notices
  capacity := .of_same h.interval h.lanes
  port := h.port

/-- Steady steps add up. -/
theorem Steady.foldl {α : Type} {f : State → α → State} (hf : ∀ s a, Steady s (f s a)) (as : List α) (s : State) :
    Steady s (as.foldl f s) :=
  foldl_keeps (P := Steady s) (fun u a h => h.trans (hf u a)) as s (.refl s)

/-! ### One entry replaced -/

theorem steady_setTarget {s : State} {t : Fin 32} {x : Target} (h : (s.target t).SameBinding x) :
    Steady s (s.setTarget t x) := by
  refine { Steady.refl s with targets := fun k => ?_ }
  rw [State.setTarget_target]
  split
  · rename_i hk
    exact hk ▸ h
  · exact .refl _

theorem steady_setPoll {s : State} {p : Fin 48} {x : Poll} (h : (s.poll p).SameDefinition x) :
    Steady s (s.setPoll p x) := by
  refine { Steady.refl s with polls := fun k => ?_ }
  rw [State.setPoll_poll]
  split
  · rename_i hk
    exact hk ▸ h
  · exact .refl _

theorem steady_setLane {s : State} {i : Fin 4} {x : Lane} (h : (s.lane i).SameSettings x) :
    Steady s (s.setLane i x) := by
  refine { Steady.refl s with lanes := fun k => ?_ }
  rw [State.setLane_lane]
  split
  · rename_i hk
    exact hk ▸ h
  · exact .refl _

theorem steady_setLine (s : State) (l : Fin 8) (x : Line) : Steady s (s.setLine l x) := { Steady.refl s with }

/-! ### Lanes, blocks and records -/

theorem steady_wakeLane (i : Fin 4) (s : State) : Steady s (wakeLane i s) := by
  have hlanes (k : Fin 4) := (wakeLane_sameButTiers i k s).sameSettings
  rw [wakeLane_frame] at hlanes ⊢
  exact { Steady.refl s with lanes := hlanes }

theorem steady_wakeAll (s : State) : Steady s (wakeAll s) := by
  have hlanes (k : Fin 4) := (wakeAll_sameButTiers s k).sameSettings
  rw [wakeAll_frame] at hlanes ⊢
  exact { Steady.refl s with lanes := hlanes }

theorem steady_releaseBlock (s : State) : Steady s (releaseBlock s) :=
  (show Steady s { s with pool := { s.pool with free := s.pool.free + 1 } } from { Steady.refl s with }).trans
    (steady_wakeAll _)

theorem steady_releaseIf (b : Bool) (s : State) : Steady s (releaseIf b s) := by
  cases b with
  | false => exact .refl s
  | true => exact steady_releaseBlock s

theorem steady_releaseReservation (r : Reservation) (s : State) : Steady s (releaseReservation r s) := by
  cases r with
  | none => exact .refl s
  | slot => exact steady_wakeAll s
  | slotAndBlock => exact steady_releaseBlock s

theorem steady_addRecord (r : Record) (s : State) : Steady s (addRecord r s) := { Steady.refl s with }

/-! ### Notices (R122, R125) -/

theorem occurrences_mergeNotice (b : NoticeBody) {n : Notice} (h : 1 ≤ n.occurrences ∧ n.occurrences ≤ 255) :
    1 ≤ (mergeNotice b n).occurrences ∧ (mergeNotice b n).occurrences ≤ 255 := by
  obtain ⟨hlo, hhi⟩ := h
  unfold mergeNotice
  split
  · exact ⟨hlo.trans (le_countUp ..), countUp_le hhi⟩
  · exact ⟨hlo, hhi⟩

/-- A posting keeps the Notice Queue in order (R122, R125). -/
theorem noticeInv_post (b : NoticeBody) {s : State} (h : NoticeInv s) : NoticeInv (post b s) := by
  obtain ⟨hlen, hkeys, hocc, hlost⟩ := h
  cases hwaits : s.notices.any fun n => n.body.key = b.key with
  | true =>
    rw [post_merged hwaits]
    refine ⟨by simpa using hlen, by simpa [Function.comp_def] using hkeys, fun n hn => ?_, hlost⟩
    obtain ⟨m, hm, rfl⟩ := List.mem_map.1 hn
    exact occurrences_mergeNotice b (hocc m hm)
  | false =>
    by_cases hroom : s.notices.length < 16
    · rw [post_new hwaits hroom]
      have hnew : ∀ n ∈ s.notices, n.body.key ≠ b.key := by simpa using hwaits
      refine ⟨?_, ?_, fun n hn => ?_, hlost⟩
      · simpa using hroom
      · rw [List.map_append, List.nodup_append]
        refine ⟨hkeys, by simp, fun k hk k' hk' => ?_⟩
        obtain ⟨n, hn, rfl⟩ := List.mem_map.1 hk
        obtain rfl : k' = b.key := by simpa using hk'
        exact hnew n hn
      · rcases List.mem_append.1 hn with hn | hn
        · exact hocc n hn
        · obtain rfl : n = ⟨b, 1⟩ := by simpa using hn
          exact ⟨le_refl 1, by simp⟩
    · rw [post_lost hwaits (Nat.le_of_not_lt hroom)]
      exact ⟨hlen, hkeys, hocc, countUp_le hlost⟩

theorem steady_post (b : NoticeBody) (s : State) : Steady s (post b s) := by
  have hnotices := noticeInv_post b (s := s)
  rw [post_frame] at hnotices ⊢
  exact { Steady.refl s with notices := hnotices }

/-! ### Targets and their probes -/

theorem Target.sameBinding_afterOutcome (t : Target) (isProbe : Bool) (status : RecordStatus) :
    t.SameBinding (t.afterOutcome isProbe status) := by
  by_cases hf : t.state = .free
  · have hsame : t.afterOutcome isProbe status = t := by simp [Target.afterOutcome, hf]
    rw [hsame]
    exact .refl _
  · have hframe := Target.afterOutcome_frame hf isProbe status
    refine { lane := by rw [hframe], busAddress := by rw [hframe], free := iff_of_false ?_ hf }
    rw [Target.afterOutcome_state hf]
    split_ifs with hq hp
    · decide
    · decide
    · cases status with
      | ok | dataNack => exact TargetState.noConfusion
      | addrNack | stretchTimeout =>
        rw [Target.moved_state_of_failed (by simp)]
        split_ifs <;> decide
      | arbLost | busStuck | aborted | cancelled | quarantined => exact hf

theorem steady_changeTarget {t : Fin 32} {x : Target} {s : State} (h : (s.target t).SameBinding x) :
    Steady s (changeTarget t x s) := by
  unfold changeTarget
  split
  · exact steady_setTarget h
  · exact (steady_setTarget h).trans (steady_post ..)

theorem steady_targetOutcome (t : Fin 32) (isProbe : Bool) (status : RecordStatus) (s : State) :
    Steady s (targetOutcome t isProbe status s) := by
  unfold targetOutcome wakeIfRevived
  refine (steady_changeTarget (Target.sameBinding_afterOutcome (s.target t) isProbe status)).trans ?_
  split
  · exact steady_wakeLane ..
  · exact .refl _

theorem steady_removeProbe (t : Fin 32) (s : State) : Steady s (removeProbe t s) := by
  unfold removeProbe
  dsimp only
  split
  · refine .trans ?_ (steady_wakeLane ..)
    exact steady_setLane { Lane.SameSettings.refl _ with }
  · exact .refl _

theorem steady_lowerCountdown (t : Fin 32) (s : State) : Steady s (lowerCountdown t s) :=
  steady_setTarget ⟨rfl, rfl, Iff.rfl⟩

theorem steady_queueProbe (t : Fin 32) (s : State) : Steady s (queueProbe t s) := by
  refine .trans ?_ (steady_wakeLane ..)
  refine (steady_setTarget (x := { s.target t with countdown := 0 }) ⟨rfl, rfl, Iff.rfl⟩).trans ?_
  exact steady_setLane { Lane.SameSettings.refl (s.lane (s.target t).lane) with }

/-! ### Reports -/

theorem steady_newPollRecord (p : Fin 48) (x : Transaction) (f : Final) (s : State) :
    Steady s (newPollRecord p x f s) := by
  refine .trans ?_ (steady_releaseIf ..)
  refine .trans ?_ (steady_addRecord ..)
  exact steady_setPoll ⟨rfl, rfl⟩

theorem steady_mergePollRecord (p : Fin 48) (k : Nat) (r : Record) (f : Final) (s : State) :
    Steady s (mergePollRecord p k r f s) := by
  unfold mergePollRecord
  dsimp only
  refine .trans ?_ (steady_releaseIf ..)
  refine .trans ?_ (steady_releaseIf ..)
  refine .trans ?_ (steady_wakeAll ..)
  exact (steady_setPoll (x := { s.poll p with counts := { (s.poll p).counts with
    superseded := count16 (s.poll p).counts.superseded } }) ⟨rfl, rfl⟩).trans { Steady.refl _ with }

theorem steady_reportPoll (p : Fin 48) (x : Transaction) (f : Final) (s : State) : Steady s (reportPoll p x f s) := by
  unfold reportPoll
  dsimp only
  refine (steady_setPoll (x := (s.poll p).written f) ⟨rfl, rfl⟩).trans ?_
  split
  · exact steady_mergePollRecord ..
  · exact steady_newPollRecord ..

theorem steady_pollCompletion (p : Fin 48) (x : Transaction) (f : Final) (s : State) :
    Steady s (pollCompletion p x f s) := by
  unfold pollCompletion
  dsimp only
  refine (steady_setPoll (x := (s.poll p).completed) ⟨rfl, rfl⟩).trans ?_
  split
  · exact steady_reportPoll ..
  · exact steady_releaseBlock ..

theorem steady_endQueuedJob (j : Job) (status : RecordStatus) (s : State) : Steady s (endQueuedJob j status s) :=
  (steady_addRecord ..).trans (steady_releaseIf ..)

theorem steady_endRunningJob (j : Job) (f : Final) (s : State) : Steady s (endRunningJob j f s) :=
  ((steady_addRecord ..).trans (steady_releaseIf ..)).trans (steady_releaseIf ..)

theorem steady_trigger (l : Fin 8) (s : State) : Steady s (trigger l s) := by
  refine .trans ?_ (steady_wakeLane ..)
  refine (steady_setLine s l (s.line l).triggered).trans ?_
  exact steady_setLane { Lane.SameSettings.refl (s.lane (lineLane s l)) with }

theorem steady_moveLine (l : Fin 8) (s : State) : Steady s (moveLine l s) := by
  unfold moveLine
  split
  · exact steady_trigger ..
  · exact steady_setLine ..

theorem steady_alertSnapshot (l : Fin 8) (x : Transaction) (f : Final) (s : State) :
    Steady s (alertSnapshot l x f s) := by
  unfold alertSnapshot
  split
  · exact .refl _
  · exact steady_setPoll ⟨rfl, rfl⟩

theorem steady_endAlertRead (l : Fin 8) (x : Transaction) (f : Final) (s : State) :
    Steady s (endAlertRead l x f s) :=
  (((steady_addRecord ..).trans (steady_alertSnapshot ..)).trans (steady_moveLine ..)).trans (steady_releaseIf ..)

theorem steady_settleAlert (l : Fin 8) (s : State) : Steady s (settleAlert l s) :=
  (steady_addRecord ..).trans (steady_moveLine ..)

/-! ### The arbiter and replies (R136) -/

theorem steady_makeReady (r : Reply) (s : State) : Steady s (makeReady r s) := { Steady.refl s with }

theorem steady_answer (tag kind : Byte) (fields : List Byte) (s : State) : Steady s (answer tag kind fields s) :=
  steady_makeReady ..

theorem steady_deny (tag kind : Byte) (status : ReplyStatus) (s : State) : Steady s (deny tag kind status s) :=
  steady_makeReady ..

theorem steady_finishDrain (others : List Reply) (s : State) : Steady s (finishDrain others s) := by
  rw [finishDrain_frame]
  exact { Steady.refl s with }

/-- The head notice leaves the Notice Queue and takes the Lost Notices value with it (R126). -/
theorem noticeInv_tail {n : Notice} {rest : List Notice} {s u : State} (hs : s.notices = n :: rest)
    (hn : u.notices = rest) (hl : u.lostNotices = 0) (h : NoticeInv s) : NoticeInv u := by
  obtain ⟨hlen, hkeys, hocc, _⟩ := h
  rw [hs] at hlen hkeys hocc
  rw [NoticeInv, hn, hl]
  exact ⟨Nat.le_of_succ_le hlen, (List.nodup_cons.1 hkeys).2, fun m hm => hocc m (List.mem_cons_of_mem _ hm), by simp⟩

/-- Against one credit the port stays sound (R138). -/
theorem portInv_spend {s u : State} (hr : u.receiver = s.receiver) (hc : u.credit = s.credit - 1) (h : PortInv s) :
    PortInv u := by
  obtain ⟨hreceiver, hcredit⟩ := h
  exact ⟨hr ▸ hreceiver, by omega⟩

theorem steady_takeRecord (r : Record) (rest : List Record) (s : State) : Steady s (takeRecord r rest s) := by
  refine .trans ?_ (steady_releaseIf ..)
  refine .trans ?_ (steady_wakeAll ..)
  refine { Steady.refl s with polls := fun p => ?_, port := portInv_spend rfl rfl }
  change (s.poll p).SameDefinition ((s.polls.map Poll.headTaken).get p)
  rw [Table.get_map]
  exact ⟨rfl, rfl⟩

theorem steady_arbitrate (s : State) : Steady s (arbitrate s) := by
  rcases arbitrate_cases s with h | ⟨_, _, h⟩ | ⟨_, _, _, _, _, h⟩ | ⟨_, _, _, _, _, _, hn, h⟩ |
    ⟨_, _, _, _, _, _, _, _, h⟩ <;> rw [h]
  · exact .refl s
  · exact { Steady.refl s with }
  · exact { Steady.refl s with }
  · exact { Steady.refl s with notices := noticeInv_tail hn rfl rfl, port := portInv_spend rfl rfl }
  · exact steady_takeRecord ..

/-! ### Cycle starts (R15) -/

theorem steady_afterChoice (s : State) : Steady s s.afterChoice := by
  rw [afterChoice_frame]
  exact { Steady.refl s with }

theorem steady_withChoice {f : List Nat → State → State} (hf : ∀ picks u, Steady u (f picks u)) (s : State) :
    Steady s (withChoice f s) :=
  (steady_afterChoice s).trans (hf ..)

theorem steady_postCycle (picks : List Nat) (before s : State) : Steady s (postCycle picks before s) :=
  .foldl (fun u b => steady_post b u) ..

theorem steady_leaveHoldoffs (picks : List Nat) (s : State) : Steady s (leaveHoldoffs picks s) :=
  (Steady.foldl (f := armLine) (fun _ _ => steady_setLine ..) _ s).trans (.foldl (fun u l => steady_trigger l u) ..)

theorem steady_countDowns (picks : List Nat) (s : State) : Steady s (countDowns picks s) :=
  (Steady.foldl (f := fun u t => lowerCountdown t u) (fun u t => steady_lowerCountdown t u) _ s).trans
    (.foldl (fun u t => steady_queueProbe t u) ..)

theorem steady_countMiss (s : State) (m : Fin 48 × MissReason) : Steady s (countMiss s m) := steady_setPoll ⟨rfl, rfl⟩

/-- The work lists that admission makes are in order (R29, R30). -/
theorem scheduleInv_scheduleCycle {s : State} (h : ScheduleInv s) : ScheduleInv (scheduleCycle s) := by
  have hcounted := Steady.foldl steady_countMiss ((List.finRange 4).flatMap (cycleMisses s)) s
  refine ⟨(hcounted.keeps.schedule h).1, fun i => ?_⟩
  rw [scheduleCycle_lane]
  refine ⟨(duePolls_nodup s i).sublist (admitted_sublist s i), fun p hp => ?_⟩
  obtain ⟨hdue, hlane⟩ := (mem_duePolls s i p).1 ((admitted_sublist s i).subset hp)
  have hstate : ((scheduleCycle s).poll p).state = (s.poll p).state := (hcounted.polls p).state
  have hdefn : ((scheduleCycle s).poll p).defn = (s.poll p).defn := (hcounted.polls p).defn
  have htarget : ((scheduleCycle s).target (s.poll p).defn.target).lane = (s.target (s.poll p).defn.target).lane :=
    (hcounted.targets _).lane
  rw [hstate, pollLane, hdefn, htarget]
  exact ⟨((Poll.due_iff _ _).1 hdue).1, hlane⟩

/-- A lane begins the cycle with R at C (R40). -/
theorem capacityInv_scheduleCycle {s : State} (h : CapacityInv s) : CapacityInv (scheduleCycle s) := by
  obtain ⟨hlo, hhi, hlanes⟩ := h
  have hinterval : (scheduleCycle s).interval = s.interval := by rw [scheduleCycle_frame]
  rw [CapacityInv, hinterval]
  refine ⟨hlo, hhi, fun i => ?_⟩
  obtain ⟨hs1, hs2, hp1, hp2, hc, hb, _⟩ := hlanes i
  rw [scheduleCycle_lane]
  exact ⟨hs1, hs2, hp1, hp2, hc, hb, le_refl _⟩

theorem keeps_scheduleCycle (s : State) : KeepsSmall s (scheduleCycle s) := by
  have hcounted := (Steady.foldl steady_countMiss ((List.finRange 4).flatMap (cycleMisses s)) s).keeps
  exact { schedule := scheduleInv_scheduleCycle, binding := hcounted.binding, notice := hcounted.notice
          capacity := capacityInv_scheduleCycle, port := hcounted.port }

theorem keeps_startCycle (c : Word16) (s : State) : KeepsSmall s (startCycle c s) := by
  have hcycle : KeepsSmall s { s with cycle := c } := { KeepsSmall.refl s with }
  refine (hcycle.trans (keeps_scheduleCycle _)).trans (Steady.keeps ?_)
  refine .trans ?_ (steady_wakeAll _)
  refine .trans ?_ (steady_withChoice steady_countDowns _)
  refine .trans ?_ (steady_withChoice steady_leaveHoldoffs _)
  exact steady_withChoice (fun picks u => steady_postCycle picks _ u) _

/-! ### Polls leave their work list, definitions end (R25 to R27) -/

theorem told_sameSettings (op : OpState) (l : Lane) : l.SameSettings (told op l) := by
  unfold told
  split
  · exact { Lane.SameSettings.refl l with }
  · exact .refl l

theorem unlisted_sameSettings (op : OpState) (p : Fin 48) (l : Lane) : l.SameSettings (unlisted op p l) := by
  unfold unlisted
  split
  · refine .trans ?_ (told_sameSettings ..)
    exact { Lane.SameSettings.refl l with workList := List.filter_sublist }
  · exact .refl l

theorem told_workList (op : OpState) (l : Lane) : (told op l).workList = l.workList := by
  unfold told
  split <;> rfl

theorem not_mem_unlisted (op : OpState) (p : Fin 48) (l : Lane) : p ∉ (unlisted op p l).workList := by
  unfold unlisted
  split
  · rw [told_workList]
    simp
  · assumption

theorem definitionEnded_sameSettings (s : State) (p : Fin 48) (l : Lane) : l.SameSettings (definitionEnded s p l) := by
  refine .trans ?_ (unlisted_sameSettings s.op p _)
  exact { Lane.SameSettings.refl l with }

/-! ### Looking for work (R42 to R47) -/

/-- The state that the examination of a tier comes to. -/
def Look.state : Look → State
  | .started s | .settled s | .passed s => s

theorem Look.steady_next {s : State} {r : Look} {examine : State → Look} (hr : Steady s r.state)
    (hnext : ∀ u, Steady u (examine u).state) : Steady s (r.next examine).state := by
  cases r with
  | started u | settled u => exact hr
  | passed u => exact Steady.trans hr (hnext u)

theorem steady_claimBlock (s : State) : Steady s (claimBlock s) := { Steady.refl s with }

theorem Lane.sameSettings_begin (l : Lane) (x : Transaction) : l.SameSettings (l.begin x) :=
  { Lane.SameSettings.refl l with remaining := fun h => (Nat.sub_le ..).trans h }

theorem steady_startTransaction (i : Fin 4) (x : Transaction) (s : State) : Steady s (startTransaction i x s) := by
  unfold startTransaction
  refine (steady_setLane (Lane.sameSettings_begin (s.lane i) x)).trans ?_
  dsimp only
  split
  · exact steady_claimBlock _
  · exact .refl _

theorem steady_examineHead (i : Fin 4) (x : Transaction) {close start : State → State} {s : State}
    (hclose : Steady s (close s)) (hstart : Steady s (start s)) : Steady s (examineHead i x close start s).state := by
  unfold examineHead
  split
  · exact hclose
  · split
    · exact hstart.trans (steady_startTransaction ..)
    · exact .refl s

theorem steady_lookProbe (i : Fin 4) (s : State) : Steady s (lookProbe i s).state := by
  unfold lookProbe
  split
  · exact steady_examineHead _ _ (steady_setLane { Lane.SameSettings.refl _ with })
      (steady_setLane { Lane.SameSettings.refl _ with })
  · exact .refl s

theorem steady_startLine (l : Fin 8) (s : State) : Steady s (startLine l s) := steady_setLine ..

theorem steady_lookAlert (i : Fin 4) (s : State) : Steady s (lookAlert i s).state := by
  unfold lookAlert
  split
  · have hrest (reads : List (Fin 8)) : Steady s (s.setLane i { s.lane i with alertTier := reads }) :=
      steady_setLane { Lane.SameSettings.refl _ with }
    dsimp only
    split
    · split
      · exact (hrest _).trans (steady_settleAlert ..)
      · exact .refl s
    · exact steady_examineHead _ _ (steady_setLane { Lane.SameSettings.refl _ with })
        ((hrest _).trans (steady_startLine ..))
  · exact .refl s

/-- The head of a work list leaves it. -/
theorem steady_setWorkList {i : Fin 4} {p : Fin 48} {rest : List (Fin 48)} {s : State}
    (h : (s.lane i).workList = p :: rest) : Steady s (s.setLane i { s.lane i with workList := rest }) :=
  steady_setLane { Lane.SameSettings.refl _ with workList := by rw [h]; exact List.sublist_cons_self .. }

theorem steady_skipQuarantined (i : Fin 4) {ps : List (Fin 48)} {s : State} (h : (s.lane i).workList = ps) :
    Steady s (skipQuarantined i ps s) := by
  induction ps generalizing s with
  | nil => exact .refl s
  | cons p rest ih =>
    unfold skipQuarantined
    split
    · refine .trans ?_ (ih ?_)
      · exact ((steady_setWorkList h).trans (steady_countMiss ..)).trans (steady_post ..)
      · rw [post_frame]
        exact congrArg Lane.workList (State.setLane_lane_self ..)
    · exact .refl s

theorem steady_lookPoll (i : Fin 4) (s : State) : Steady s (lookPoll i s).state := by
  unfold lookPoll
  split
  · rename_i p rest h
    exact steady_examineHead _ _ (steady_setLane { Lane.SameSettings.refl _ with }) (steady_setWorkList h)
  · exact .refl s

theorem steady_lookSchedule (i : Fin 4) (s : State) : Steady s (lookSchedule i s).state := by
  unfold lookSchedule
  split
  · exact .refl s
  · exact (steady_skipQuarantined i rfl).trans (steady_lookPoll ..)

theorem steady_lookJob (i : Fin 4) (s : State) : Steady s (lookJob i s).state := by
  unfold lookJob
  split
  · have hrest (jobs : List Job) : Steady s (s.setLane i { s.lane i with jobs := jobs }) :=
      steady_setLane { Lane.SameSettings.refl _ with }
    split
    · split
      · exact (hrest _).trans (steady_endQueuedJob ..)
      · exact .refl s
    · exact steady_examineHead _ _ (steady_setLane { Lane.SameSettings.refl _ with }) (hrest _)
  · exact .refl s

theorem steady_lookOnce (i : Fin 4) (s : State) : Steady s (lookOnce i s).state :=
  Look.steady_next (Look.steady_next (Look.steady_next (steady_lookProbe i s) (steady_lookAlert i))
    (steady_lookSchedule i)) (steady_lookJob i)

theorem steady_lookPasses (i : Fin 4) (fuel : Nat) (s : State) : Steady s (lookPasses i fuel s) := by
  induction fuel generalizing s with
  | zero => exact .refl s
  | succ fuel ih =>
    have honce := steady_lookOnce i s
    unfold lookPasses
    split <;> rename_i t ht <;> rw [ht] at honce
    · exact honce
    · exact honce.trans (ih t)
    · exact honce

theorem steady_look (i : Fin 4) (s : State) : Steady s (look i s) :=
  (steady_lookPasses i _ s).trans (steady_setLane { Lane.SameSettings.refl _ with })

/-! ### The end of transactions, retries and recovery (R54 to R61) -/

theorem Lane.sameSettings_endTxn (l : Lane) (status : RecordStatus) : l.SameSettings (l.endTxn status) := by
  unfold Lane.endTxn
  dsimp only
  split
  · exact { Lane.SameSettings.refl l with }
  · exact { Lane.SameSettings.refl l with }

theorem steady_reportOutcome (x : Transaction) (held : Reservation) (f : Final) (s : State) :
    Steady s (reportOutcome x held f s) := by
  unfold reportOutcome
  split
  · split
    · exact steady_releaseReservation ..
    · exact steady_pollCompletion ..
  · exact steady_endAlertRead ..
  · exact steady_endRunningJob ..
  · exact .refl s

theorem steady_endTransaction (i : Fin 4) (f : Final) (s : State) : Steady s (endTransaction i f s) := by
  unfold endTransaction
  split
  · exact .refl s
  · refine .trans ?_ (steady_wakeLane ..)
    refine .trans ?_ (steady_reportOutcome ..)
    refine .trans ?_ (steady_targetOutcome ..)
    exact steady_setLane (Lane.sameSettings_endTxn ..)

theorem Lane.sameSettings_retry (l : Lane) (x : Transaction) (t : Target) : l.SameSettings (l.retry x t) :=
  { Lane.SameSettings.refl l with remaining := fun h => (Nat.sub_le ..).trans h }

theorem steady_recoveredIdle (i : Fin 4) (s : State) : Steady s (recoveredIdle i s) := by
  unfold recoveredIdle
  dsimp only
  refine .trans ?_ (steady_wakeLane ..)
  have hidle : Steady s (s.setLane i { s.lane i with state := .idle, waitingResets := [], fromFault := false }) :=
    steady_setLane { Lane.SameSettings.refl _ with }
  split
  · exact hidle.trans (steady_post ..)
  · exact hidle

theorem steady_faultLane (i : Fin 4) (cause : FaultCause) (posted : LaneCause) (s : State) :
    Steady s (faultLane i cause posted s) := by
  refine .trans ?_ (steady_post ..)
  exact steady_setLane { Lane.SameSettings.refl _ with }

theorem steady_abandonLane (i : Fin 4) (s : State) : Steady s (abandonLane i s) := by
  have hrecover (fromFault : Bool) : Steady s (s.setLane i ((s.lane i).recover fromFault)) :=
    steady_setLane { Lane.SameSettings.refl _ with }
  unfold abandonLane
  split
  · exact .refl s
  · exact .refl s
  · exact hrecover false
  · exact steady_endTransaction ..
  · exact (hrecover true).trans (steady_post ..)

theorem steady_laneReset (tag : Byte) (i : Fin 4) (s : State) : Steady s (laneReset tag i s) :=
  (steady_abandonLane i s).trans (steady_setLane { Lane.SameSettings.refl _ with })

/-! ### Jobs (R65 to R77) -/

theorem steady_submit (tag : Byte) (q : JobRequest) (s : State) : Steady s (submit tag q s) := by
  unfold submit
  dsimp only
  refine .trans ?_ (steady_answer ..)
  refine .trans ?_ (steady_wakeLane ..)
  have hnumber (n : Nat) : Steady s { s with nextJob := n } := { Steady.refl s with }
  split
  · exact ((hnumber _).trans (steady_claimBlock _)).trans (steady_setLane { Lane.SameSettings.refl _ with })
  · exact (hnumber _).trans (steady_setLane { Lane.SameSettings.refl _ with })

theorem steady_cancelJob (i : Fin 4) (number : Nat) (s : State) : Steady s (cancelJob i number s) := by
  unfold cancelJob
  split
  · refine .trans ?_ (steady_wakeLane ..)
    refine .trans ?_ (steady_endQueuedJob ..)
    exact steady_setLane { Lane.SameSettings.refl _ with }
  · exact .refl s

theorem steady_flushJobs (i : Fin 4) (s : State) : Steady s (flushJobs i s) := by
  unfold flushJobs
  refine .trans ?_ (.foldl (fun u j => steady_endQueuedJob j .cancelled u) ..)
  exact steady_setLane { Lane.SameSettings.refl _ with }

theorem steady_flushLane (tag : Byte) (i : Fin 4) (s : State) : Steady s (flushLane tag i s) := by
  unfold flushLane
  dsimp only
  refine .trans ?_ (steady_finishDrain ..)
  split
  · exact steady_flushJobs ..
  · exact (steady_flushJobs ..).trans (steady_wakeLane ..)

theorem steady_drainHead (i : Fin 4) (j : Job) (rest : List Job) (s : State) : Steady s (drainHead i j rest s) := by
  refine .trans ?_ (steady_endQueuedJob ..)
  refine .trans (steady_setLane (x := { s.lane i with jobs := rest }) { Lane.SameSettings.refl _ with }) ?_
  exact { Steady.refl _ with }

/-! ### Alert lines (R79 to R93) -/

theorem steady_activeEdge (l : Fin 8) (s : State) : Steady s (activeEdge l s) := by
  unfold activeEdge
  split
  · exact steady_trigger ..
  · split
    · exact steady_setLine ..
    · exact .refl s

theorem steady_takeLevel (l : Fin 8) (s : State) : Steady s (takeLevel l s) := by
  unfold takeLevel
  dsimp only
  refine (steady_setLine s l { s.line l with level := inputActive s l }).trans ?_
  split
  · exact steady_activeEdge ..
  · exact .refl _

theorem steady_enableLine (q : AlertRequest) (s : State) : Steady s (enableLine q s) := by
  unfold enableLine levelTrigger
  refine (steady_setLine s q.line ((s.line q.line).armedWith q (s.alertPins.get q.line))).trans ?_
  split
  · exact steady_trigger ..
  · exact .refl _

theorem steady_removeAlertRead (l : Fin 8) (s : State) : Steady s (removeAlertRead l s) := by
  refine .trans ?_ (steady_wakeLane ..)
  exact steady_setLane { Lane.SameSettings.refl _ with }

theorem steady_disableLine (l : Fin 8) (s : State) : Steady s (disableLine l s) := by
  unfold disableLine
  dsimp only
  split
  · exact .refl s
  · exact steady_setLine ..
  · exact steady_setLine ..
  · exact (steady_setLine ..).trans (steady_removeAlertRead ..)
  · exact steady_setLine ..

theorem steady_evaluateLines (picks : List Nat) (s : State) : Steady s (evaluateLines picks s) := by
  unfold evaluateLines
  refine .trans ?_ (.foldl (fun u l => steady_trigger l u) ..)
  exact { Steady.refl s with }

/-! ### Every entry replaced -/

theorem steady_lanes {s : State} {lanes : Table Lane 4} (h : ∀ i, (s.lane i).SameSettings (lanes.get i)) :
    Steady s { s with lanes := lanes } :=
  { Steady.refl s with lanes := h }

theorem steady_clearTargets (s : State) : Steady s (clearTargets s) := by
  refine { Steady.refl s with targets := fun t => ?_ }
  have h : (clearTargets s).target t = { s.target t with counts := .zero } := Table.get_map ..
  rw [h]
  exact ⟨rfl, rfl, Iff.rfl⟩

theorem steady_clearPolls (s : State) : Steady s (clearPolls s) := by
  refine { Steady.refl s with polls := fun p => ?_ }
  have h : (clearPolls s).poll p = { s.poll p with counts := .zero } := Table.get_map ..
  rw [h]
  exact ⟨rfl, rfl⟩

theorem steady_clearLanes (s : State) : Steady s (clearLanes s) := by
  refine steady_lanes fun i => ?_
  rw [Table.get_map]
  exact { Lane.SameSettings.refl (s.lane i) with }

theorem steady_clearClass (c : CounterClass) (s : State) : Steady s (clearClass c s) := by
  cases c with
  | all =>
    refine (((steady_clearTargets s).trans (steady_clearPolls _)).trans (steady_clearLanes _)).trans ?_
    exact { Steady.refl _ with }
  | target => exact steady_clearTargets s
  | poll => exact steady_clearPolls s
  | lane => exact steady_clearLanes s
  | alert | result | host => exact { Steady.refl s with }

theorem Target.sameBinding_stopped (s : State) (t : Fin 32) : (s.target t).SameBinding (stoppedTarget s t) := by
  unfold stoppedTarget
  split
  · exact ⟨rfl, rfl, Iff.rfl⟩
  · exact .refl _

theorem steady_stop (tag : Byte) (s : State) : Steady s (stop tag s) := by
  refine .trans ?_ (steady_finishDrain ..)
  refine { Steady.refl s with targets := fun t => ?_, lanes := fun i => ?_ }
  · change (s.target t).SameBinding ((Table.ofFn (stoppedTarget s)).get t)
    rw [Table.get_ofFn]
    exact Target.sameBinding_stopped s t
  · change (s.lane i).SameSettings ((s.lanes.map Lane.stopped).get i)
    rw [Table.get_map]
    exact { Lane.SameSettings.refl (s.lane i) with workList := List.nil_sublist _ }

/-! ### Replacing target entries: BIND_TARGET and UNBIND_TARGET (R3 to R6) -/

/-- An entry to which no defined poll refers may change as it likes (R5). -/
theorem scheduleInv_setTarget {s : State} {t : Fin 32} (x : Target)
    (hfree : ∀ p, (s.poll p).state ≠ .free → (s.poll p).defn.target ≠ t) (h : ScheduleInv s) :
    ScheduleInv (s.setTarget t x) := by
  obtain ⟨hdefined, hlists⟩ := h
  refine ⟨fun p hp => ?_, fun i => ⟨(hlists i).1, fun p hmem => ?_⟩⟩
  · rw [State.setTarget_poll] at hp ⊢
    rw [State.setTarget_target_ne _ _ _ _ (hfree p hp)]
    exact hdefined p hp
  · obtain ⟨hactive, hlane⟩ := (hlists i).2 p hmem
    have hp : (s.poll p).state ≠ .free := by simp [hactive]
    rw [pollLane, State.setTarget_poll, State.setTarget_target_ne _ _ _ _ (hfree p hp)]
    exact ⟨hactive, hlane⟩

/-- A binding whose lane and address no other bound entry has (R3 check 5). -/
theorem bindingInv_setTarget {s : State} {t : Fin 32} {x : Target}
    (hx : x.state ≠ .free → ∀ u, u ≠ t → (s.target u).state ≠ .free →
      ¬((s.target u).lane = x.lane ∧ (s.target u).busAddress = x.busAddress))
    (h : BindingInv s) : BindingInv (s.setTarget t x) := by
  intro a b hne ha hb
  rw [State.setTarget_target] at ha hb ⊢
  rw [State.setTarget_target]
  by_cases hat : a = t
  · have hbt : b ≠ t := fun e => hne (hat.trans e.symm)
    rw [if_pos hat] at ha ⊢
    rw [if_neg hbt] at hb ⊢
    exact fun ⟨hl, haddr⟩ => hx ha b hbt hb ⟨hl.symm, haddr.symm⟩
  · rw [if_neg hat] at ha ⊢
    by_cases hbt : b = t
    · rw [if_pos hbt] at hb ⊢
      exact hx hb a hat ha
    · rw [if_neg hbt] at hb ⊢
      exact h a b hne ha hb

theorem keeps_changeTarget {s : State} {t : Fin 32} {x : Target} (h : KeepsSmall s (s.setTarget t x)) :
    KeepsSmall s (changeTarget t x s) := by
  unfold changeTarget
  split
  · exact h
  · exact h.trans (steady_post ..).keeps

theorem keeps_carryOut {α : Type} {tag kind : Byte} {checked : Checked α} {effect : α → State → State} {s : State}
    (h : ∀ a, checked = .ok a → KeepsSmall s (effect a s)) : KeepsSmall s (carryOut tag kind checked effect s) := by
  cases checked with
  | error status => exact (steady_deny ..).keeps
  | ok a => exact h a rfl

theorem keeps_carryOut_of_steady {α : Type} {tag kind : Byte} {checked : Checked α} {effect : α → State → State}
    (h : ∀ a u, Steady u (effect a u)) (s : State) : KeepsSmall s (carryOut tag kind checked effect s) :=
  keeps_carryOut fun a _ => (h a s).keeps

/-- The checks that an accepted BIND_TARGET has passed (R3 checks 4 and 5). -/
theorem checkBindTarget_ok {body : List Byte} {s : State} {a : Fin 32 × Target}
    (h : checkBindTarget body s = .ok a) :
    (s.target a.1).state = .free ∧ addressTaken s a.2.lane a.2.busAddress = false := by
  unfold checkBindTarget at h
  split at h
  · split at h
    · split at h
      · split_ifs at h with hbound htaken
        cases h
        exact ⟨not_not.1 hbound, Bool.eq_false_iff.2 htaken⟩
      · cases h
    · cases h
  · cases h

theorem keeps_runBindTarget (tag : Byte) (body : List Byte) (s : State) :
    KeepsSmall s (runBindTarget tag body s) := by
  refine keeps_carryOut fun a ha => ?_
  obtain ⟨hfree, hfresh⟩ := checkBindTarget_ok ha
  refine .trans (keeps_changeTarget ?_) (steady_answer ..).keeps
  have hnone (hs : ScheduleInv s) (p : Fin 48) (hp : (s.poll p).state ≠ .free) : (s.poll p).defn.target ≠ a.1 :=
    fun e => (hs.1 p hp).2 (e ▸ hfree)
  refine { KeepsSmall.refl s with
    schedule := fun hs => scheduleInv_setTarget _ (hnone hs) hs
    binding := bindingInv_setTarget fun _ u _ hu haddr => ?_ }
  have htaken := (addressTaken_iff s a.2.lane a.2.busAddress).2 ⟨u, hu, haddr⟩
  simp [hfresh] at htaken

theorem checkUnbindTarget_ok {body : List Byte} {s : State} {t : Fin 32} (h : checkUnbindTarget body s = .ok t) :
    targetInUse s t = false := by
  unfold checkUnbindTarget at h
  split at h
  · cases h
  · split_ifs at h with hfree huse
    cases h
    simpa using huse

theorem keeps_runUnbindTarget (tag : Byte) (body : List Byte) (s : State) :
    KeepsSmall s (runUnbindTarget tag body s) := by
  refine keeps_carryOut fun t ht => ?_
  have hunused := checkUnbindTarget_ok ht
  have hnone (p : Fin 48) (hp : (s.poll p).state ≠ .free) : (s.poll p).defn.target ≠ t := by
    intro e
    rw [(targetInUse_iff s t).2 (.inl ⟨p, hp, e⟩)] at hunused
    cases hunused
  have hpolls (p : Fin 48) : (removeProbe t s).poll p = s.poll p := by
    rw [removeProbe_frame]
    rfl
  refine .trans (steady_removeProbe t s).keeps (.trans (keeps_changeTarget ?_) (steady_answer ..).keeps)
  refine { KeepsSmall.refl (removeProbe t s) with
    schedule := scheduleInv_setTarget _ fun p hp => ?_
    binding := bindingInv_setTarget fun hx => absurd rfl hx }
  rw [hpolls] at hp ⊢
  exact hnone p hp

/-! ### Replacing poll entries: DEFINE_POLL, DELETE_POLL and SET_POLL_STATE (R23 to R27) -/

/-- A poll entry with a definition in force is in range and names a bound target (R19, R5), and stands on a work list
only as the ACTIVE entry that was put there (R29). -/
theorem scheduleInv_setPoll {s : State} {p : Fin 48} {x : Poll} {lanes : Table Lane 4}
    (hx : ScheduleInv s → x.state ≠ .free → x.defn.InRange ∧ (s.target x.defn.target).state ≠ .free)
    (hlanes : ∀ i, (s.lane i).SameSettings (lanes.get i))
    (hlisted : ∀ i, p ∈ (lanes.get i).workList → x.state = .active ∧ x.defn = (s.poll p).defn) (h : ScheduleInv s) :
    ScheduleInv { s with polls := s.polls.set p x, lanes := lanes } := by
  obtain ⟨hdefined, hlists⟩ := h
  have hpoll (q : Fin 48) : (s.polls.set p x).get q = if q = p then x else s.poll q := Table.get_set ..
  refine ⟨fun q hq => ?_, fun i => ⟨(hlists i).1.sublist (hlanes i).workList, fun q hmem => ?_⟩⟩
  · rw [State.poll, hpoll] at hq ⊢
    by_cases hqp : q = p
    · rw [if_pos hqp] at hq ⊢
      exact hx ⟨hdefined, hlists⟩ hq
    · rw [if_neg hqp] at hq ⊢
      exact hdefined q hq
  · obtain ⟨hactive, hlane⟩ := (hlists i).2 q ((hlanes i).workList.subset hmem)
    rw [pollLane, State.poll, hpoll]
    by_cases hqp : q = p
    · subst hqp
      obtain ⟨hstate, hdefn⟩ := hlisted i hmem
      rw [if_pos rfl, hdefn]
      exact ⟨hstate, hlane⟩
    · rw [if_neg hqp]
      exact ⟨hactive, hlane⟩

/-- A poll entry is replaced, and lanes only lose polls. -/
theorem keeps_setPoll {s : State} {p : Fin 48} {x : Poll} {lanes : Table Lane 4}
    (hx : ScheduleInv s → x.state ≠ .free → x.defn.InRange ∧ (s.target x.defn.target).state ≠ .free)
    (hlanes : ∀ i, (s.lane i).SameSettings (lanes.get i))
    (hlisted : ∀ i, p ∈ (lanes.get i).workList → x.state = .active ∧ x.defn = (s.poll p).defn) :
    KeepsSmall s { s with polls := s.polls.set p x, lanes := lanes } :=
  { KeepsSmall.refl s with
    schedule := scheduleInv_setPoll hx hlanes hlisted
    capacity := .of_same rfl hlanes }

theorem PollDef.inRange_of_fields {d : PollDef} {n phase th1 th0 order : Byte}
    (hn : 1 ≤ n.toNat ∧ n.toNat ≤ 32)
    (hphase : rangeField 0 (2 ^ d.periodExponent.val - 1) phase = some d.phase)
    (hth : thresholdField d.mode th1 th0 = some d.threshold) (horder : orderField d.mode order = some d.order)
    (hc : pollCountField d.mode n = some d.byteCount) : d.InRange := by
  have hpos := Nat.two_pow_pos d.periodExponent.val
  obtain ⟨⟨_, hle⟩, hphase'⟩ := rangeField_eq_some.1 hphase
  have hlt : d.phase < 2 ^ d.periodExponent.val := by omega
  cases hm : d.mode with
  | every | change =>
    rw [hm] at hth horder hc
    obtain ⟨_, hcount⟩ := rangeField_eq_some.1 hc
    refine ⟨hcount ▸ hn.1, hcount ▸ hn.2, hlt, by simp [hm], fun _ => ?_⟩
    exact ⟨(Option.some.inj hth).symm, (Option.some.inj horder).symm⟩
  | delta =>
    rw [hm] at hth horder hc
    obtain ⟨⟨hlo, hhi⟩, hcount⟩ := rangeField_eq_some.1 hc
    unfold thresholdField at hth
    dsimp only at hth
    split_ifs at hth with hrange
    have hthreshold := Option.some.inj hth
    exact ⟨by omega, by omega, hlt, fun _ => ⟨by omega, hthreshold ▸ hrange.1, hthreshold ▸ hrange.2⟩,
      fun hne => absurd hm hne⟩

/-- What an accepted DEFINE_POLL has passed (R23 checks 3 and 4). -/
theorem checkDefinePoll_ok {body : List Byte} {s : State} {q : PollRequest} (h : checkDefinePoll body s = .ok q) :
    q.defn.InRange ∧ (s.target q.defn.target).state ≠ .free := by
  unfold checkDefinePoll at h
  split at h
  · split at h
    · split at h
      · rename_i r hr
        obtain ⟨_, _, hn, _, hphase, _, hth, horder, hc, _, _⟩ := decodePoll_eq_some hr
        unfold checkPollRefs at h
        split_ifs at h with hfree _ _
        cases h
        exact ⟨PollDef.inRange_of_fields hn hphase hth horder hc, hfree⟩
      · cases h
    · cases h
  · cases h

/-- The lanes on which the definition of an entry has ended. -/
theorem definitionEnded_lanes (s : State) (p : Fin 48) (i : Fin 4) :
    (s.lane i).SameSettings ((s.lanes.map (definitionEnded s p)).get i) ∧
      p ∉ ((s.lanes.map (definitionEnded s p)).get i).workList := by
  rw [Table.get_map]
  exact ⟨definitionEnded_sameSettings .., not_mem_unlisted _ _ _⟩

theorem unlisted_lanes (s : State) (p : Fin 48) (i : Fin 4) :
    (s.lane i).SameSettings ((s.lanes.map (unlisted s.op p)).get i) ∧
      p ∉ ((s.lanes.map (unlisted s.op p)).get i).workList := by
  rw [Table.get_map]
  exact ⟨unlisted_sameSettings .., not_mem_unlisted _ _ _⟩

theorem keeps_runDefinePoll (tag : Byte) (body : List Byte) (s : State) :
    KeepsSmall s (runDefinePoll tag body s) := by
  refine keeps_carryOut fun q hq => ?_
  rw [definePoll_eq]
  refine .trans (keeps_setPoll (x := (s.poll q.poll).defined q) (fun _ _ => checkDefinePoll_ok hq)
    (fun i => (definitionEnded_lanes s q.poll i).1)
    fun i hmem => absurd hmem (definitionEnded_lanes s q.poll i).2) ?_
  exact Steady.keeps (steady_makeReady ..)

theorem keeps_runDeletePoll (tag : Byte) (body : List Byte) (s : State) :
    KeepsSmall s (runDeletePoll tag body s) := by
  refine keeps_carryOut fun p _ => ?_
  rw [deletePoll, unlistPoll_markDefinitionEnd]
  refine .trans (keeps_setPoll (p := p) (x := Poll.free (s.poll p).generation) (fun _ hx => absurd rfl hx)
    (fun i => (definitionEnded_lanes s p i).1) fun i hmem => absurd hmem (definitionEnded_lanes s p i).2) ?_
  exact Steady.keeps (steady_answer ..)

theorem checkSetPollState_ok {body : List Byte} {s : State} {a : Fin 48 × Bool}
    (h : checkSetPollState body s = .ok a) : (s.poll a.1).state ≠ .free := by
  unfold checkSetPollState at h
  split at h
  · split at h
    · split at h
      · split_ifs at h with hfree
        cases h
        exact hfree
      · cases h
    · cases h
  · cases h

theorem keeps_pausePoll {p : Fin 48} {s : State} (h : (s.poll p).state ≠ .free) : KeepsSmall s (pausePoll p s) := by
  rw [pausePoll, unlistPoll_eq]
  exact keeps_setPoll (fun hs _ => hs.1 p h) (fun i => (unlisted_lanes s p i).1)
    fun i hmem => absurd hmem (unlisted_lanes s p i).2

theorem keeps_resumePoll {p : Fin 48} {s : State} (h : (s.poll p).state ≠ .free) : KeepsSmall s (resumePoll p s) :=
  keeps_setPoll (lanes := s.lanes) (fun hs _ => hs.1 p h) (fun _ => .refl _) fun _ _ => ⟨rfl, rfl⟩

theorem keeps_runSetPollState (tag : Byte) (body : List Byte) (s : State) :
    KeepsSmall s (runSetPollState tag body s) := by
  refine keeps_carryOut fun a ha => ?_
  have hdefined := checkSetPollState_ok ha
  split
  · exact (keeps_resumePoll hdefined).trans (steady_answer ..).keeps
  · exact (keeps_pausePoll hdefined).trans (steady_answer ..).keeps

/-! ### New intervals and lane settings: SET_CYCLE and SET_LANE (R16, R38, R39) -/

theorem checkSetCycle_ok {body : List Byte} {s : State} {n : Nat} (h : checkSetCycle body s = .ok n) :
    1 ≤ n ∧ n ≤ 250 := by
  unfold checkSetCycle at h
  split at h
  · split at h
    · split at h
      · rename_i m hm
        cases h
        obtain ⟨hrange, rfl⟩ := rangeField_eq_some.1 hm
        exact hrange
      · cases h
    · cases h
  · cases h

theorem keeps_runSetCycle (tag : Byte) (body : List Byte) (s : State) : KeepsSmall s (runSetCycle tag body s) := by
  refine keeps_carryOut fun n hn => ?_
  obtain ⟨hlo, hhi⟩ := checkSetCycle_ok hn
  refine .trans ?_ (steady_answer ..).keeps
  have hlane (i : Fin 4) : (s.lanes.map fun l => l.withInterval n).get i = (s.lane i).withInterval n :=
    Table.get_map ..
  refine { KeepsSmall.refl s with schedule := ?_, capacity := ?_ }
  · refine .of_same (fun _ => .refl _) (fun _ => .refl _) fun i => ?_
    rw [State.lane, hlane]
    exact .refl _
  · rintro ⟨_, _, hlanes⟩
    refine ⟨hlo, hhi, fun i => ?_⟩
    obtain ⟨hs1, hs2, hp1, hp2, _, _, _⟩ := hlanes i
    rw [State.lane, hlane]
    exact ⟨hs1, hs2, hp1, hp2, rfl, rfl, Nat.zero_le _⟩

theorem checkSetLane_ok {body : List Byte} {s : State} {q : LaneRequest} (h : checkSetLane body s = .ok q) :
    (1 ≤ q.stretchLimit ∧ q.stretchLimit ≤ 255) ∧ 10 ≤ q.pollShare ∧ q.pollShare ≤ 90 := by
  unfold checkSetLane at h
  split at h
  · split at h
    · split at h
      · rename_i r hr
        split_ifs at h
        cases h
        simp only [decodeLane, Option.bind_eq_bind, Option.bind_eq_some_iff, Option.pure_def, Option.some.injEq] at hr
        obtain ⟨_, _, _, _, _, _, stretch, hstretch, share, hshare, rfl⟩ := hr
        obtain ⟨hs, rfl⟩ := rangeField_eq_some.1 hstretch
        obtain ⟨hp, rfl⟩ := rangeField_eq_some.1 hshare
        exact ⟨hs, hp⟩
      · cases h
    · cases h
  · cases h

/-- The lane with new settings in range, C and B derived from them and R at 0 (R39). -/
theorem keeps_withSettings {s : State} {q : LaneRequest} (hstretch : 1 ≤ q.stretchLimit ∧ q.stretchLimit ≤ 255)
    (hshare : 10 ≤ q.pollShare ∧ q.pollShare ≤ 90) :
    KeepsSmall s (s.setLane q.lane ((s.lane q.lane).withSettings s.interval q)) := by
  refine { KeepsSmall.refl s with schedule := ?_, capacity := ?_ }
  · refine .of_same (fun _ => .refl _) (fun _ => .refl _) fun i => ?_
    rw [State.setLane_lane]
    split
    · rename_i hi
      rw [hi]
      exact .refl _
    · exact .refl _
  · rintro ⟨hlo, hhi, hlanes⟩
    refine ⟨hlo, hhi, fun i => ?_⟩
    rw [State.setLane_lane]
    split
    · exact ⟨hstretch.1, hstretch.2, hshare.1, hshare.2, rfl, rfl, Nat.zero_le _⟩
    · exact hlanes i

theorem keeps_runSetLane (tag : Byte) (body : List Byte) (s : State) : KeepsSmall s (runSetLane tag body s) := by
  refine keeps_carryOut fun q hq => ?_
  obtain ⟨hstretch, hshare⟩ := checkSetLane_ok hq
  unfold setLane
  refine .trans (keeps_withSettings hstretch hshare) ?_
  refine .trans ?_ (steady_answer ..).keeps
  split
  · exact (steady_post ..).keeps
  · exact .refl _

/-! ### Admitted commands (R142) -/

theorem keeps_runPing (tag : Byte) (body : List Byte) (s : State) : KeepsSmall s (runPing tag body s) :=
  keeps_carryOut_of_steady (fun fields u => steady_answer tag 0x01 fields u) s

theorem keeps_runGetStatus (tag : Byte) (body : List Byte) (s : State) : KeepsSmall s (runGetStatus tag body s) :=
  keeps_carryOut_of_steady (fun _ _ => steady_answer ..) s

theorem keeps_runClearCounters (tag : Byte) (body : List Byte) (s : State) :
    KeepsSmall s (runClearCounters tag body s) :=
  keeps_carryOut_of_steady (fun c u => (steady_clearClass c u).trans (steady_answer ..)) s

/-- A receiver back in HUNT is sound (R130, R141). -/
theorem keeps_hunting (on : Bool) (s : State) : KeepsSmall s { s with receiver := Receiver.hunting on } :=
  { KeepsSmall.refl s with port := fun h => ⟨⟨rfl, rfl⟩, h.2⟩ }

theorem keeps_runReset (tag : Byte) (body : List Byte) (s : State) : KeepsSmall s (runReset tag body s) :=
  keeps_carryOut fun _ _ => (keeps_hunting false s).trans (steady_makeReady ..).keeps

theorem keeps_runStart (tag : Byte) (body : List Byte) (s : State) : KeepsSmall s (runStart tag body s) := by
  refine keeps_carryOut fun _ _ => ?_
  refine .trans ?_ (steady_answer ..).keeps
  have hrunning : KeepsSmall s { s with op := .running, evaluationOwed := true } := { KeepsSmall.refl s with }
  exact hrunning.trans (keeps_startCycle ..)

theorem keeps_runStop (tag : Byte) (body : List Byte) (s : State) : KeepsSmall s (runStop tag body s) :=
  keeps_carryOut_of_steady (fun _ u => steady_stop tag u) s

theorem keeps_runReadPoll (tag : Byte) (body : List Byte) (s : State) : KeepsSmall s (runReadPoll tag body s) :=
  keeps_carryOut_of_steady (fun _ _ => steady_answer ..) s

theorem keeps_runReadLane (tag : Byte) (body : List Byte) (s : State) : KeepsSmall s (runReadLane tag body s) :=
  keeps_carryOut_of_steady (fun _ u => steady_withChoice (fun _ _ => steady_answer ..) u) s

theorem keeps_runLaneReset (tag : Byte) (body : List Byte) (s : State) : KeepsSmall s (runLaneReset tag body s) :=
  keeps_carryOut_of_steady (fun i u => steady_laneReset tag i u) s

theorem keeps_runReadTarget (tag : Byte) (body : List Byte) (s : State) : KeepsSmall s (runReadTarget tag body s) :=
  keeps_carryOut_of_steady (fun _ _ => steady_answer ..) s

theorem keeps_runSubmit (tag : Byte) (body : List Byte) (s : State) : KeepsSmall s (runSubmit tag body s) :=
  keeps_carryOut_of_steady (fun q u => steady_submit tag q u) s

theorem keeps_runCancel (tag : Byte) (body : List Byte) (s : State) : KeepsSmall s (runCancel tag body s) :=
  keeps_carryOut_of_steady (fun _ _ => (steady_cancelJob ..).trans (steady_finishDrain ..)) s

theorem keeps_runFlushLane (tag : Byte) (body : List Byte) (s : State) : KeepsSmall s (runFlushLane tag body s) :=
  keeps_carryOut_of_steady (fun i u => steady_flushLane tag i u) s

theorem keeps_runSetAlert (tag : Byte) (body : List Byte) (s : State) : KeepsSmall s (runSetAlert tag body s) := by
  refine keeps_carryOut_of_steady (fun a u => ?_) s
  cases a with
  | inl q => exact (steady_enableLine q u).trans (steady_answer ..)
  | inr l => exact (steady_disableLine l u).trans (steady_answer ..)

theorem keeps_runReadAlert (tag : Byte) (body : List Byte) (s : State) : KeepsSmall s (runReadAlert tag body s) :=
  keeps_carryOut_of_steady (fun _ _ => steady_answer ..) s

theorem keeps_runGrant (tag : Byte) (body : List Byte) (s : State) : KeepsSmall s (runGrant tag body s) := by
  refine keeps_carryOut fun n _ => ?_
  refine .trans ?_ (steady_answer ..).keeps
  exact { KeepsSmall.refl s with port := fun h => ⟨h.1, Nat.min_le_right ..⟩ }

/-- An entry that is bound stays bound and where it is (R101, R102). -/
theorem steady_reviveTarget (t : Fin 32) (s : State) : Steady s (reviveTarget t s) := by
  unfold reviveTarget
  dsimp only
  split
  · exact .refl s
  · exact .refl s
  · rename_i h
    exact steady_changeTarget ⟨rfl, rfl, by simp [h]⟩
  · rename_i h
    have htarget : (removeProbe t s).target t = s.target t := by
      rw [removeProbe_frame]
      rfl
    refine .trans ?_ (steady_wakeLane ..)
    refine (steady_removeProbe t s).trans (steady_changeTarget ?_)
    rw [htarget]
    exact ⟨rfl, rfl, by simp [h]⟩

theorem steady_quarantineTarget (t : Fin 32) (s : State) : Steady s (quarantineTarget t s) := by
  unfold quarantineTarget
  dsimp only
  split
  · exact .refl s
  · rename_i h
    exact steady_changeTarget ⟨rfl, rfl, by simp [h, Target.quarantine]⟩
  · rename_i h
    exact steady_changeTarget ⟨rfl, rfl, by simp [h, Target.quarantine]⟩
  · refine .trans ?_ (steady_removeProbe ..)
    split
    · exact .refl s
    · exact steady_setTarget ⟨rfl, rfl, Iff.rfl⟩

theorem keeps_runSetTargetState (tag : Byte) (body : List Byte) (s : State) :
    KeepsSmall s (runSetTargetState tag body s) := by
  refine keeps_carryOut_of_steady (fun a u => ?_) s
  refine .trans ?_ (steady_answer ..)
  split
  · exact steady_quarantineTarget ..
  · exact steady_reviveTarget ..

/-- Every command keeps the smaller invariants (12.2). -/
theorem keeps_commandOf {kind : Byte} {run : Byte → List Byte → State → State} (h : commandOf kind = some run)
    (tag : Byte) (body : List Byte) (s : State) : KeepsSmall s (run tag body s) := by
  unfold commandOf at h
  split at h <;> cases h
  · exact keeps_runPing ..
  · exact keeps_runGetStatus ..
  · exact keeps_runClearCounters ..
  · exact keeps_runReset ..
  · exact keeps_runStart ..
  · exact keeps_runStop ..
  · exact keeps_runSetCycle ..
  · exact keeps_runDefinePoll ..
  · exact keeps_runDeletePoll ..
  · exact keeps_runSetPollState ..
  · exact keeps_runReadPoll ..
  · exact keeps_runSetLane ..
  · exact keeps_runReadLane ..
  · exact keeps_runLaneReset ..
  · exact keeps_runBindTarget ..
  · exact keeps_runUnbindTarget ..
  · exact keeps_runReadTarget ..
  · exact keeps_runSetTargetState ..
  · exact keeps_runSubmit ..
  · exact keeps_runCancel ..
  · exact keeps_runFlushLane ..
  · exact keeps_runSetAlert ..
  · exact keeps_runReadAlert ..
  · exact keeps_runGrant ..

theorem keeps_runFrame (kind tag : Byte) (body : List Byte) (s : State) : KeepsSmall s (runFrame kind tag body s) := by
  unfold runFrame
  split
  · rename_i run h
    exact keeps_commandOf h tag body s
  · exact (steady_deny ..).keeps

/-! ### Admission and the receiver (R130 to R134) -/

theorem steady_hostError (count : HostErrors → HostErrors) (one : HostErrors) (s : State) :
    Steady s (hostError count one s) := by
  refine .trans ?_ (steady_post ..)
  exact { Steady.refl s with }

theorem steady_refuse (kind tag : Byte) (status : ReplyStatus) (s : State) : Steady s (refuse kind tag status s) := by
  unfold refuse
  split
  · exact steady_makeReady ..
  · exact steady_hostError ..

theorem keeps_admission {effect : State → State} (h : ∀ u, KeepsSmall u (effect u)) (kind tag : Byte) (s : State) :
    KeepsSmall s (admission kind tag effect s) := by
  rcases admission_cases kind tag effect s with ⟨_, _, _, hadm⟩ | ⟨status, _, href⟩
  · have hflight : KeepsSmall s { s with inFlight := s.inFlight ++ [tag] } := { KeepsSmall.refl s with }
    rw [hadm]
    exact hflight.trans (h _)
  · rw [href]
    exact (steady_refuse ..).keeps

theorem keeps_toHunt (s : State) : KeepsSmall s (toHunt s) := keeps_hunting true s

theorem keeps_judge (frame : List Byte) (s : State) : KeepsSmall s (judge frame s) := by
  unfold judge
  dsimp only
  split
  · split
    · exact (keeps_toHunt s).trans (keeps_admission (fun u => keeps_runFrame _ _ _ u) ..)
    · exact keeps_toHunt s
  · exact (keeps_toHunt s).trans (steady_hostError ..).keeps

/-- The receiver takes another sound value (R130). -/
theorem keeps_setReceiver {s : State} {r : Receiver} (h : s.receiver.Sound → r.Sound) :
    KeepsSmall s { s with receiver := r } :=
  { KeepsSmall.refl s with port := fun hs => ⟨h hs.1, hs.2⟩ }

/-- The LENGTH byte opens the body (R130). -/
theorem Receiver.sound_length {r : Receiver} (hr : r.state = .length) {b : Byte} (hb : 2 ≤ b.toNat ∧ b.toNat ≤ 250)
    (h : r.Sound) : Receiver.Sound ⟨true, .body, r.buffer ++ [b], b.toNat, true⟩ := by
  rcases r with ⟨on, state, buffer, expects, gap⟩
  dsimp only at hr ⊢
  subst hr
  cases buffer with
  | nil => exact ⟨hb.1, hb.2, Nat.le_of_succ_le hb.1, Nat.zero_add _, rfl, rfl⟩
  | cons _ _ => exact h.elim

/-- A byte of the body that is not its last (R130). -/
theorem Receiver.sound_body {r : Receiver} (hr : r.state = .body) (hmore : 1 < r.expects) (b : Byte)
    (h : r.Sound) : Receiver.Sound ⟨true, .body, r.buffer ++ [b], r.expects - 1, true⟩ := by
  rcases r with ⟨on, state, buffer, expects, gap⟩
  dsimp only at hr hmore ⊢
  subst hr
  cases buffer with
  | nil => exact h.elim
  | cons n rest =>
    obtain ⟨hlo, hhi, _, hlen, _, _⟩ := h
    dsimp only at hlen
    have hlen' : (rest ++ [b]).length + (expects - 1) = n.toNat := by
      rw [List.length_append, List.length_singleton]
      omega
    exact ⟨hlo, hhi, Nat.le_sub_one_of_lt hmore, hlen', rfl, rfl⟩

/-- The last byte of the body; the two CHECK bytes follow (R130). -/
theorem Receiver.sound_bodyEnd {r : Receiver} (hr : r.state = .body) (hlast : r.expects ≤ 1) (b : Byte)
    (h : r.Sound) : Receiver.Sound ⟨true, .check, r.buffer ++ [b], 2, true⟩ := by
  rcases r with ⟨on, state, buffer, expects, gap⟩
  dsimp only at hr hlast ⊢
  subst hr
  cases buffer with
  | nil => exact h.elim
  | cons n rest =>
    obtain ⟨hlo, hhi, hone, hlen, _, _⟩ := h
    dsimp only at hone hlen
    have hlen' : (rest ++ [b]).length + 2 = n.toNat + 2 := by
      rw [List.length_append, List.length_singleton]
      omega
    exact ⟨hlo, hhi, Nat.le_succ 1, le_refl 2, hlen', rfl, rfl⟩

/-- The first CHECK byte (R130). -/
theorem Receiver.sound_check {r : Receiver} (hr : r.state = .check) (hmore : 1 < r.expects) (b : Byte)
    (h : r.Sound) : Receiver.Sound ⟨true, .check, r.buffer ++ [b], r.expects - 1, true⟩ := by
  rcases r with ⟨on, state, buffer, expects, gap⟩
  dsimp only at hr hmore ⊢
  subst hr
  cases buffer with
  | nil => exact h.elim
  | cons n rest =>
    obtain ⟨hlo, hhi, _, htwo, hlen, _, _⟩ := h
    dsimp only at hlen
    have hlen' : (rest ++ [b]).length + (expects - 1) = n.toNat + 2 := by
      rw [List.length_append, List.length_singleton]
      omega
    exact ⟨hlo, hhi, Nat.le_sub_one_of_lt hmore, (Nat.sub_le ..).trans htwo, hlen', rfl, rfl⟩

theorem keeps_takeByte (b : Byte) (s : State) : KeepsSmall s (takeByte b s) := by
  unfold takeByte
  split <;> rename_i hstate
  · split
    · exact keeps_setReceiver fun _ => ⟨rfl, rfl, rfl⟩
    · exact .refl s
  · split
    · rename_i hb
      exact keeps_setReceiver (Receiver.sound_length hstate hb)
    · exact (keeps_toHunt s).trans (steady_hostError ..).keeps
  · split
    · rename_i hlast
      exact keeps_setReceiver (Receiver.sound_bodyEnd hstate hlast b)
    · rename_i hmore
      exact keeps_setReceiver (Receiver.sound_body hstate (Nat.lt_of_not_le hmore) b)
  · split
    · exact keeps_judge ..
    · rename_i hmore
      exact keeps_setReceiver (Receiver.sound_check hstate (Nat.lt_of_not_le hmore) b)

/-! ### Resets (R152, R157) -/

/-- Every block at its reset values meets the smaller invariants (R152). -/
theorem keeps_of_reset (s : State) {u : State} (hinterval : u.interval = State.reset.interval)
    (htargets : u.targets = State.reset.targets) (hpolls : u.polls = State.reset.polls)
    (hlanes : u.lanes = State.reset.lanes) (hnotices : u.notices = []) (hlost : u.lostNotices = 0)
    (hreceiver : u.receiver = Receiver.hunting false) (hcredit : u.credit = 0) : KeepsSmall s u := by
  have htarget (t : Fin 32) : u.target t = Target.free := by rw [State.target, htargets]; exact Table.get_replicate ..
  have hpoll (p : Fin 48) : u.poll p = Poll.free 0 := by rw [State.poll, hpolls]; exact Table.get_replicate ..
  have hlane (i : Fin 4) : u.lane i = Lane.afterReset := by rw [State.lane, hlanes]; exact Table.get_replicate ..
  refine ⟨fun _ => ⟨fun p hp => ?_, fun i => ?_⟩, fun _ t _ _ ht => ?_, fun _ => ?_, fun _ => ?_, fun _ => ?_⟩
  · rw [hpoll] at hp
    exact absurd rfl hp
  · rw [hlane]
    exact ⟨List.nodup_nil, fun p hp => absurd hp List.not_mem_nil⟩
  · rw [htarget] at ht
    exact absurd rfl ht
  · rw [NoticeInv, hnotices, hlost]
    exact ⟨by simp, by simp, by simp, by simp⟩
  · rw [CapacityInv, hinterval]
    refine ⟨by decide, by decide, fun i => ?_⟩
    rw [hlane]
    decide
  · rw [PortInv, hreceiver, hcredit]
    exact ⟨⟨rfl, rfl⟩, Nat.zero_le _⟩

theorem keeps_commandReset (s : State) : KeepsSmall s (commandReset s) :=
  (steady_afterChoice s).keeps.trans (keeps_of_reset _ rfl rfl rfl rfl rfl rfl rfl rfl)

theorem keeps_frameSent (content : FrameContent) (s : State) : KeepsSmall s (frameSent content s) := by
  unfold frameSent
  split
  · exact keeps_hunting true s
  · exact keeps_commandReset s
  all_goals exact .refl s

/-! ### The arbiter has acted (R136) -/

/-- What it takes for the arbiter to have nothing to take (R136). -/
theorem settled_iff (s : State) :
    Settled s ↔ s.transmitter ≠ none ∨ (s.announcePending = false ∧ s.ready = [] ∧
      (s.credit = 0 ∨ (s.notices = [] ∧ s.records = []))) := by
  constructor
  · intro h
    by_contra hne
    have hne' := not_or.1 hne
    have hfree : s.transmitter = none := not_not.1 hne'.1
    have htaken : (arbitrate s).transmitter = none := by rw [h]; exact hfree
    rcases ha : s.announcePending with _ | _
    · rcases hr : s.ready with _ | ⟨r, rest⟩
      · have hc : 0 < s.credit := Nat.pos_of_ne_zero fun hc => hne'.2 ⟨ha, hr, .inl hc⟩
        rcases hn : s.notices with _ | ⟨n, rest⟩
        · rcases hq : s.records with _ | ⟨r, rest⟩
          · exact hne'.2 ⟨ha, hr, .inr ⟨hn, hq⟩⟩
          · rw [arbitrate_record hfree ha hr hc hn hq, takeRecord_frame] at htaken
            cases htaken
        · rw [arbitrate_notice hfree ha hr hc hn] at htaken
          cases htaken
      · rw [arbitrate_reply hfree ha hr] at htaken
        cases htaken
    · rw [arbitrate_announce hfree ha] at htaken
      cases htaken
  · rintro (hbusy | ⟨ha, hr, hc | ⟨hn, hq⟩⟩)
    · obtain ⟨f, hf⟩ := Option.ne_none_iff_exists'.1 hbusy
      exact arbitrate_busy hf
    · by_cases hfree : s.transmitter = none
      · exact arbitrate_noCredit hfree ha hr hc
      · obtain ⟨f, hf⟩ := Option.ne_none_iff_exists'.1 hfree
        exact arbitrate_busy hf
    · by_cases hfree : s.transmitter = none
      · exact arbitrate_nothing hfree ha hr hn hq
      · obtain ⟨f, hf⟩ := Option.ne_none_iff_exists'.1 hfree
        exact arbitrate_busy hf

/-! ### One happening -/

/-- Whatever state a happening in `s` answers, the smaller invariants of `s` hold of it, and the arbiter leaves nothing
if it had left nothing. -/
def KeepsInvariants (s : State) (o : Host.Outcome State Fault Refusal) : Prop :=
  ∀ t, o = .next t → KeepsSmall s t ∧ (Settled s → Settled t)

theorem KeepsInvariants.next {s u : State} (h : KeepsSmall s u) (hs : Settled s → Settled u) :
    KeepsInvariants s (.next u) := by
  rintro t ⟨⟩
  exact ⟨h, hs⟩

theorem KeepsInvariants.stays (s : State) : KeepsInvariants s (.next s) := .next (.refl s) id

theorem KeepsInvariants.finish {s u : State} (h : KeepsSmall s u) : KeepsInvariants s (finish u) :=
  .next (h.trans (steady_arbitrate u).keeps) fun _ => arbitrate_settled u

theorem KeepsInvariants.ite {s : State} {c : Prop} [Decidable c] {a b : Host.Outcome State Fault Refusal}
    (ha : KeepsInvariants s a) (hb : KeepsInvariants s b) : KeepsInvariants s (if c then a else b) := by
  split
  · exact ha
  · exact hb

theorem keeps_hostCommand {effect : State → State} {kind tag : Byte} {s : State} (h : ∀ u, KeepsSmall u (effect u)) :
    KeepsInvariants s (hostCommand kind tag effect s) :=
  .ite (.finish ((keeps_hunting true s).trans (keeps_admission h ..))) (.stays s)

theorem keeps_onTransaction {i : Fin 4} {s : State} {k : Transaction → Host.Outcome State Fault Refusal}
    (h : ∀ x, KeepsInvariants s (k x)) : KeepsInvariants s (onTransaction i s k) := by
  unfold onTransaction
  split
  · exact h _
  · exact .stays s

theorem keeps_endStep {i : Fin 4} {f : Final} {s u : State} (h : Steady s u) :
    KeepsInvariants s (endStep i f u) :=
  .finish ((h.trans (steady_endTransaction ..)).trans (steady_finishDrain ..)).keeps

theorem keeps_recoveryStep {i : Fin 4} {state : LaneState} {s ended : State} (h : Steady s ended) :
    KeepsInvariants s (recoveryStep i state ended s) :=
  .finish (h.trans (steady_finishDrain ..)).keeps

/-- A part that is held in reset or has just left it has nothing to send. -/
theorem KeepsInvariants.reset (s : State) {u : State} (h : KeepsSmall s u) (ht : u.transmitter = none)
    (ha : u.announcePending = false) (hr : u.ready = []) (hn : u.notices = []) (hq : u.records = []) :
    KeepsInvariants s (.next u) :=
  .next h fun _ => arbitrate_nothing ht ha hr hn hq

theorem keeps_execTransactionEnd (i : Fin 4) (result : BusResult) (s : State) :
    KeepsInvariants s (execTransactionEnd i result s) := by
  refine keeps_onTransaction fun x => ?_
  split
  · exact keeps_endStep (.refl s)
  · exact .stays s

theorem keeps_execAttemptAddrNack (i : Fin 4) (s : State) : KeepsInvariants s (execAttemptAddrNack i s) :=
  keeps_onTransaction fun _ =>
    .ite (.finish (steady_setLane (Lane.sameSettings_retry ..)).keeps) (keeps_endStep (.refl s))

theorem keeps_execRecoveryEnd (i : Fin 4) (result : RecoveryResult) (s : State) :
    KeepsInvariants s (execRecoveryEnd i result s) := by
  refine .ite ?_ (.stays s)
  cases result with
  | busFree => exact keeps_recoveryStep (steady_recoveredIdle ..)
  | sdaHeld => exact keeps_recoveryStep (steady_faultLane ..)

theorem keeps_execDrainRemoval (i : Fin 4) (s : State) : KeepsInvariants s (execDrainRemoval i s) := by
  unfold execDrainRemoval
  split
  · exact .ite (.finish ((steady_drainHead ..).trans (steady_finishDrain ..)).keeps) (.stays s)
  · exact .stays s

theorem keeps_execAlertInputChange (l : Fin 8) (high : Bool) (s : State) :
    KeepsInvariants s (execAlertInputChange l high s) := by
  have hpins : Steady s { s with alertPins := s.alertPins.set l high } := { Steady.refl s with }
  refine .ite (.finish (hpins.trans (steady_takeLevel ..)).keeps) (.next hpins.keeps fun h => ?_)
  exact (settled_iff _).2 ((settled_iff s).1 h)

theorem keeps_execTransmitEnd (s : State) : KeepsInvariants s (execTransmitEnd s) := by
  have hfree : KeepsSmall s { s with transmitter := none } := { KeepsSmall.refl s with }
  unfold execTransmitEnd
  split
  · exact .finish (hfree.trans (keeps_frameSent ..))
  · exact .stays s

theorem keeps_execReset (s : State) :
    KeepsInvariants s (execPowerOn s) ∧ KeepsInvariants s (execResetInput s) ∧
      (∀ rate1 rate0, KeepsInvariants s (execResetRelease rate1 rate0 s)) ∧
      KeepsInvariants s (execSupplyBelowOperatingLevel s) :=
  ⟨.reset s (keeps_of_reset s rfl rfl rfl rfl rfl rfl rfl rfl) rfl rfl rfl rfl rfl,
    .reset s (keeps_of_reset s rfl rfl rfl rfl rfl rfl rfl rfl) rfl rfl rfl rfl rfl,
    fun _ _ => .ite (.reset s (keeps_of_reset s rfl rfl rfl rfl rfl rfl rfl rfl) rfl rfl rfl rfl rfl) (.stays s),
    .reset s (keeps_of_reset s rfl rfl rfl rfl rfl rfl rfl rfl) rfl rfl rfl rfl rfl⟩

/-- Every command and event keeps the smaller invariants. -/
theorem exec_keepsInvariants (c : Instr) (s : State) : KeepsInvariants s (exec c s) := by
  obtain ⟨hpowerOn, hresetInput, hrelease, hsupply⟩ := keeps_execReset s
  cases c with
  | ping => exact keeps_hostCommand (keeps_runPing _ _)
  | getStatus => exact keeps_hostCommand (keeps_runGetStatus _ _)
  | clearCounters => exact keeps_hostCommand (keeps_runClearCounters _ _)
  | reset => exact keeps_hostCommand (keeps_runReset _ _)
  | start => exact keeps_hostCommand (keeps_runStart _ _)
  | stop => exact keeps_hostCommand (keeps_runStop _ _)
  | setCycle => exact keeps_hostCommand (keeps_runSetCycle _ _)
  | definePoll => exact keeps_hostCommand (keeps_runDefinePoll _ _)
  | deletePoll => exact keeps_hostCommand (keeps_runDeletePoll _ _)
  | setPollStatePause | setPollStateResume => exact keeps_hostCommand (keeps_runSetPollState _ _)
  | readPoll => exact keeps_hostCommand (keeps_runReadPoll _ _)
  | setLane => exact keeps_hostCommand (keeps_runSetLane _ _)
  | readLane => exact keeps_hostCommand (keeps_runReadLane _ _)
  | laneReset => exact keeps_hostCommand (keeps_runLaneReset _ _)
  | bindTarget => exact keeps_hostCommand (keeps_runBindTarget _ _)
  | unbindTarget => exact keeps_hostCommand (keeps_runUnbindTarget _ _)
  | readTarget => exact keeps_hostCommand (keeps_runReadTarget _ _)
  | setTargetStateRevive | setTargetStateQuarantine => exact keeps_hostCommand (keeps_runSetTargetState _ _)
  | submit => exact keeps_hostCommand (keeps_runSubmit _ _)
  | cancel => exact keeps_hostCommand (keeps_runCancel _ _)
  | flushLane => exact keeps_hostCommand (keeps_runFlushLane _ _)
  | setAlertEnable | setAlertDisable => exact keeps_hostCommand (keeps_runSetAlert _ _)
  | readAlert => exact keeps_hostCommand (keeps_runReadAlert _ _)
  | grant => exact keeps_hostCommand (keeps_runGrant _ _)
  | powerOn => exact hpowerOn
  | resetInput => exact hresetInput
  | resetRelease rate1 rate0 => exact hrelease rate1 rate0
  | supplyBelowOperatingLevel => exact hsupply
  | initEnd => exact .ite (.finish { KeepsSmall.refl s with }) (.stays s)
  | receiveByte => exact .ite (.finish (keeps_takeByte ..)) (.stays s)
  | gapTimeout => exact .ite (.finish ((keeps_toHunt s).trans (steady_hostError ..).keeps)) (.stays s)
  | transmitEnd => exact keeps_execTransmitEnd s
  | cycleStart => exact .ite (.finish (keeps_startCycle ..)) (.stays s)
  | lookForWork => exact .ite (.finish (steady_look ..).keeps) (.stays s)
  | attemptAddrNack => exact keeps_execAttemptAddrNack _ s
  | stretchTimeout =>
    exact keeps_onTransaction fun _ => keeps_endStep (steady_setLane { Lane.SameSettings.refl _ with })
  | busStuck => exact keeps_onTransaction fun _ => keeps_endStep (.refl s)
  | arbLost => exact keeps_onTransaction fun _ => keeps_endStep (steady_setLane { Lane.SameSettings.refl _ with })
  | transactionEnd => exact keeps_execTransactionEnd _ _ s
  | recoveryEnd => exact keeps_execRecoveryEnd _ _ s
  | recoverySclTimeout => exact .ite (keeps_recoveryStep (steady_faultLane ..)) (.stays s)
  | drainRemoval => exact keeps_execDrainRemoval _ s
  | alertInputChange => exact keeps_execAlertInputChange _ _ s
  | alertFilterExpiry => exact .ite (.finish (steady_takeLevel ..).keeps) (.stays s)
  | alertEvaluation => exact .ite (.finish (steady_withChoice steady_evaluateLines s).keeps) (.stays s)

/-- Settles O60, by the cases of the happening at the front of the queue. -/
theorem stepKeepsSmallInvariants : Obligations.StepKeepsSmallInvariants := by
  intro s t h
  unfold step at h
  cases hq : s.pending with
  | nil =>
    rw [hq] at h
    obtain rfl : s = t := by injection h
    exact ⟨id, id, id, id, id, id⟩
  | cons c rest =>
    rw [hq] at h
    have hrest : KeepsSmall s { s with pending := rest } := { KeepsSmall.refl s with }
    obtain ⟨hkeeps, hsettled⟩ := exec_keepsInvariants c { s with pending := rest } t h
    have hall := hrest.trans hkeeps
    exact ⟨hall.schedule, hall.binding, hall.notice, hall.capacity, hall.port,
      fun hs => hsettled ((settled_iff _).2 ((settled_iff s).1 hs))⟩

end Sys2Proof.Machine

/-! PROOF. Rules for the operations that lanes, lines and the Notice Queue share: what a lane is told (R43), postings
beside lanes (R125), the end of an alert line's read (R85), and blocks that are freed (R106 to R110). -/

namespace Sys2Proof.Machine

/-! ### Lanes that are told (R43) -/

theorem told_frame (op : OpState) (l : Lane) : told op l = { l with lookOwed := (told op l).lookOwed } := by
  unfold told
  split <;> rfl

/-- An IDLE lane that a happening of R43 reaches looks for work in RUNNING. -/
theorem told_of_idle {l : Lane} (h : l.state = .idle) (op : OpState) :
    told op l = { l with lookOwed := if op = .running then true else l.lookOwed } := by
  by_cases hop : op = .running
  · rw [told, if_pos ⟨hop, h⟩, if_pos hop]
  · rw [told, if_neg fun both => hop both.1, if_neg hop]

/-- A lane that owes a look already is told nothing new (R43). -/
theorem told_of_owed {l : Lane} (h : l.lookOwed = true) (op : OpState) : told op l = l := by
  unfold told
  split
  · rw [← h]
  · rfl

theorem told_running (l : Lane) : told .running l = l.wake := by
  simp [told, Lane.wake]

/-! ### Postings (R125) -/

/-- A posting and the replacing of lanes do not touch each other. -/
theorem post_withLanes (b : NoticeBody) (s : State) (lanes : Table Lane 4) :
    post b { s with lanes := lanes } = { post b s with lanes := lanes } := by
  unfold post
  dsimp only
  split
  · rfl
  · split <;> rfl

theorem post_setLane (i : Fin 4) (l : Lane) (b : NoticeBody) (s : State) :
    post b (s.setLane i l) = (post b s).setLane i l := by
  have hlanes : (post b s).lanes = s.lanes := by rw [post_frame]
  rw [State.setLane, State.setLane, post_withLanes, hlanes]

theorem post_lane (b : NoticeBody) (s : State) (i : Fin 4) : (post b s).lane i = s.lane i := by
  rw [post_frame]
  rfl

/-- A posting and the telling of a lane do not touch each other. -/
theorem wakeLane_post (i : Fin 4) (b : NoticeBody) (s : State) : wakeLane i (post b s) = post b (wakeLane i s) := by
  have hop : (post b s).op = s.op := by rw [post_frame]
  unfold wakeLane
  rw [hop, post_lane]
  split
  · rw [post_setLane]
  · rfl

/-! ### Alert lines (R82, R85) -/

/-- A trigger as the statements write it (R82). -/
theorem trigger_eq (a : Fin 8) (s : State) : trigger a s = triggeredAt a s := by
  unfold trigger
  dsimp only
  rw [wakeLane_setLane]
  rfl

theorem triggeredAt_lane (a : Fin 8) (s : State) (k : Fin 4) :
    (triggeredAt a s).lane k =
      if k = lineLane s a then told s.op { s.lane k with alertTier := (s.lane k).alertTier ++ [a] } else s.lane k := by
  refine (Table.get_set ..).trans ?_
  split
  · rename_i hk
    rw [hk]
  · rfl

theorem Line.owesRead_iff (l : Line) (op : OpState) :
    l.owesRead op = true ↔ l.closing = false ∧ l.mode = .edge ∧ l.followUp = true ∧ op = .running := by
  simp [Line.owesRead, and_assoc]

theorem Line.readEnded_running (l : Line) :
    l.readEnded .running =
      if l.closing then { l with state := .off, closing := false, followUp := false, extraEdges := 0 }
      else if l.mode = .level then { l with state := .holdoff, extraEdges := 0 }
      else { l with state := .armed, extraEdges := 0 } := by
  rcases l with ⟨_, _, _ | _, _, _, _, _, _, _ | _, _, _⟩ <;> rfl

/-- What the end of a read in RUNNING makes of its line (R85). -/
theorem moveLine_running {a : Fin 8} {s : State} (hop : s.op = .running) :
    moveLine a s =
      if (s.line a).closing then
        s.setLine a { s.line a with state := .off, closing := false, followUp := false, extraEdges := 0 }
      else if (s.line a).mode = .level then s.setLine a { s.line a with state := .holdoff, extraEdges := 0 }
      else if (s.line a).followUp then triggeredAt a s
      else s.setLine a { s.line a with state := .armed, extraEdges := 0 } := by
  have hedge (h : (s.line a).mode ≠ .level) : (s.line a).mode = .edge := by
    cases hmode : (s.line a).mode with
    | edge => rfl
    | level => exact absurd hmode h
  rw [moveLine, hop, trigger_eq, Line.readEnded_running, apply_ite (s.setLine a), apply_ite (s.setLine a)]
  simp only [Line.owesRead_iff]
  split_ifs <;> simp_all

/-! ### Blocks and record slots (R106 to R110) -/

/-- The number of reservations depends on those the lanes hold (R109). -/
theorem reservations_congr {s u : State} (h : ∀ k, (u.lane k).reservation = (s.lane k).reservation) :
    u.reservations = s.reservations := by
  simp only [State.reservations, State.lanes_toList, List.countP_map]
  exact List.countP_congr fun k _ => by simp [h k]

/-- A block that is freed is told to every lane (R43, R108). -/
theorem releaseIf_eq (held : Bool) (s : State) :
    releaseIf held s =
      { s with pool := { s.pool with free := s.pool.free + (if held then 1 else 0) }
               lanes := s.lanes.map fun k => if held then told s.op k else k } := by
  have hlanes : (releaseIf held s).lanes = s.lanes.map fun k => if held then told s.op k else k := by
    ext k
    rw [Table.get_map]
    refine (releaseIf_lane held k s).trans ?_
    by_cases hop : s.op = .running
    · simp only [hop, told_running, and_true]
      rfl
    · simp [hop, told]
      rfl
  rw [releaseIf_frame, hlanes]

/-- A job that ends without a transaction (R71, R69). -/
theorem endQueuedJob_eq (j : Job) (status : RecordStatus) (s : State) :
    endQueuedJob j status s =
      { s with records := s.records ++ [jobRecord s.cycle j (Final.plain status)]
               pool := { s.pool with free := s.pool.free + (if j.data.isSome then 1 else 0) }
               lanes := s.lanes.map fun k => if j.data.isSome then told s.op k else k } := by
  rw [endQueuedJob, releaseIf_eq]
  rfl

theorem endQueuedJob_lane (j : Job) (status : RecordStatus) (s : State) (k : Fin 4) :
    (endQueuedJob j status s).lane k = if j.data.isSome then told s.op (s.lane k) else s.lane k := by
  rw [endQueuedJob_eq]
  exact Table.get_map ..

end Sys2Proof.Machine

/-! PROOF. The commands to lanes: SET_LANE with its range checks, its settings and the State it moves to (R38, R39,
R59), READ_LANE (R62) and LANE_RESET by the State of the lane (R60, R61), with the statements about them. -/

namespace Sys2Proof.Machine

/-! ### SET_LANE (R38, R39) -/

theorem mem_of_speedField {hi lo : Byte} {speed : Speed} (h : speedField hi lo = some speed) :
    hi.toNat * 256 + lo.toNat ∈ [100, 400, 1000] := by
  unfold speedField wordField at h
  split_ifs at h with h1 h2 h3
  · simp [h1]
  · simp [h2]
  · simp [h3]

/-- The bytes of a Speed are read back (R159). -/
theorem speedField_kbits (speed : Speed) :
    speedField (BitVec.ofNat 8 (speed.kbits / 256)) (BitVec.ofNat 8 speed.kbits) = some speed := by
  cases speed <;> simp [speedField, wordField, Speed.kbits]

theorem decodeLane_out_of_range {lane enable sp1 sp0 stretch share : Byte}
    (h : ¬ (lane.toNat < 4 ∧ enable.toNat < 2 ∧ sp1.toNat * 256 + sp0.toNat ∈ [100, 400, 1000] ∧ 1 ≤ stretch.toNat ∧
      10 ≤ share.toNat ∧ share.toNat ≤ 90)) : decodeLane lane enable sp1 sp0 stretch share = none := by
  rw [Option.eq_none_iff_forall_ne_some]
  intro q hq
  simp only [decodeLane, Option.bind_eq_bind, Option.bind_eq_some_iff] at hq
  obtain ⟨_, hlane, _, henable, _, hspeed, _, hstretch, _, hshare, _⟩ := hq
  obtain ⟨⟨hstretch, _⟩, _⟩ := rangeField_eq_some.1 hstretch
  obtain ⟨⟨hlo, hhi⟩, _⟩ := rangeField_eq_some.1 hshare
  exact h ⟨lt_of_indexField hlane, lt_of_yesNoField henable, mem_of_speedField hspeed, hstretch, hlo, hhi⟩

theorem decodeLane_in_range (i : Fin 4) (enable : Bool) (speed : Speed) {stretch share : Byte}
    (hstretch : 1 ≤ stretch.toNat)
    (hlo : 10 ≤ share.toNat) (hhi : share.toNat ≤ 90) :
    decodeLane (byte i.val) (if enable then 0x01 else 0x00) (BitVec.ofNat 8 (speed.kbits / 256))
        (BitVec.ofNat 8 speed.kbits) stretch share =
      some ⟨i, enable, speed, stretch.toNat, share.toNat⟩ := by
  have henable : yesNoField (if enable then 0x01 else 0x00) = some enable := by cases enable <;> rfl
  have hstretch' : rangeField 1 255 stretch = some stretch.toNat := rangeField_eq_some.2 (by omega)
  have hshare : rangeField 10 90 share = some share.toNat := rangeField_eq_some.2 (by omega)
  have hlane : indexField 4 (byte i.val) = some i := indexField_byte (by decide) i
  simp only [decodeLane, hlane, henable, speedField_kbits, hstretch', hshare]
  rfl

theorem checkSetLane_out_of_range {lane enable sp1 sp0 stretch share : Byte} {s : State} (hop : s.op = .standby)
    (h : decodeLane lane enable sp1 sp0 stretch share = none) :
    checkSetLane [lane, enable, sp1, sp0, stretch, share] s = .error .badValue := by
  simp [checkSetLane, OpState.legalInStandby, hop, h]

theorem checkSetLane_in_range {lane enable sp1 sp0 stretch share : Byte} {s : State} (hop : s.op = .standby)
    {q : LaneRequest} (h : decodeLane lane enable sp1 sp0 stretch share = some q) :
    checkSetLane [lane, enable, sp1, sp0, stretch, share] s =
      if (s.lane q.lane).state = .recovering then .error .busy
      else if q.enable = false ∧ (s.lane q.lane).jobs ≠ [] then .error .inUse
      else .ok q := by
  simp only [checkSetLane, OpState.legalInStandby, hop, h]
  rfl

theorem exec_setLane {s : State} {tag : Byte} (h : Admits s tag) (body : List Byte) :
    exec (.setLane tag body) s = .next (arbitrate (runSetLane tag body (admitted tag s))) := hostCommand_admitted h

/-- Settles O26, by the range checks of R38 and then its checks of the lane in their order. -/
theorem setLaneStoresSettings : Obligations.SetLaneStoresSettings := by
  intro s tag hadm hop
  have hop' : (admitted tag s).op = .standby := hop
  refine ⟨fun lane enable sp1 sp0 stretch share h => ?_, ?_⟩
  · rw [exec_setLane hadm, runSetLane, checkSetLane_out_of_range hop' (decodeLane_out_of_range h), carryOut_error]
    rfl
  · rintro i enable speed stretch share hstretch hlo hhi _ rfl _ rfl _ rfl
    have hdecode := decodeLane_in_range i enable speed hstretch hlo hhi
    rw [exec_setLane hadm, runSetLane, word]
    simp only [List.cons_append, List.nil_append]
    rw [checkSetLane_in_range hop' hdecode, carryOut_check, carryOut_check, carryOut_ok]
    refine next_arbitrate_congr (ite_congr rfl (fun _ => rfl) fun _ => ite_congr rfl (fun _ => rfl) fun _ => ?_)
    rfl

/-! ### READ_LANE (R62) -/

theorem exec_readLane {s : State} {tag : Byte} (h : Admits s tag) (body : List Byte) :
    exec (.readLane tag body) s = .next (arbitrate (runReadLane tag body (admitted tag s))) := hostCommand_admitted h

/-- Settles O27: the fields of the reply in the order of R62, the sampled levels being those that the choice gives. -/
theorem readLaneReportsLane : Obligations.ReadLaneReportsLane := by
  intro s tag hadm hop
  have hop' : (admitted tag s).op ≠ .init := hop
  refine ⟨fun b hb => ?_, ?_⟩
  · rw [exec_readLane hadm, runReadLane, checkIndex_out_of_range hb hop', carryOut_error]
    rfl
  · rintro i _ rfl
    let picks := (admitted tag s).choice
    refine ⟨picks.getD 0 1 % 2 == 1, picks.getD 1 1 % 2 == 1, (admitted tag s).afterChoice.script,
      (admitted tag s).afterChoice.draws, ?_⟩
    rw [exec_readLane hadm, runReadLane, checkIndex_byte (by decide) i hop', carryOut_ok, readLane, withChoice,
      answer_eq_replied, afterChoice_frame]
    refine next_arbitrate_congr (congrArg (fun body => replied tag 0x8D body _) ?_)
    simp only [laneFields, laneCounterFields, admitted_lane, List.cons_append, List.nil_append, List.append_assoc]
    rfl

/-! ### LANE_RESET (R60, R61) -/

theorem exec_laneReset {s : State} {tag : Byte} (h : Admits s tag) (body : List Byte) :
    exec (.laneReset tag body) s = .next (arbitrate (runLaneReset tag body (admitted tag s))) := hostCommand_admitted h

theorem checkLaneReset_byte (i : Fin 4) {s : State} (hop : s.op ≠ .init) :
    checkLaneReset [byte i.val] s = if (s.lane i).state = .off then .error .laneDown else .ok i := by
  rw [checkLaneReset, checkIndex_byte (by decide) i hop]

theorem checkLaneReset_out_of_range {b : Byte} (hb : 4 ≤ b.toNat) {s : State} (hop : s.op ≠ .init) :
    checkLaneReset [b] s = .error .badValue := by
  rw [checkLaneReset, checkIndex_out_of_range hb hop]

/-- The lane holds the tag of a LANE_RESET whose reply waits (R61). -/
def Lane.waits (l : Lane) (tag : Byte) : Lane := { l with waitingResets := l.waitingResets ++ [tag] }

theorem laneReset_eq (tag : Byte) (i : Fin 4) (s : State) :
    laneReset tag i s = (abandonLane i s).setLane i (((abandonLane i s).lane i).waits tag) := rfl

/-! An accepted LANE_RESET by the State of the lane (R60). -/

theorem laneReset_of_recovering {tag : Byte} {i : Fin 4} {s : State} (h : (s.lane i).state = .recovering) :
    laneReset tag i s = s.setLane i ((s.lane i).waits tag) := by
  simp only [laneReset_eq, abandonLane, h]

theorem laneReset_of_idle {tag : Byte} {i : Fin 4} {s : State} (h : (s.lane i).state = .idle) :
    laneReset tag i s = s.setLane i (((s.lane i).recover false).waits tag) := by
  simp only [laneReset_eq, abandonLane, h, State.setLane_lane_self, State.setLane_setLane]

theorem laneReset_of_busy {tag : Byte} {i : Fin 4} {s : State} (h : (s.lane i).state = .busy) :
    laneReset tag i s = (endTransaction i (Final.plain .aborted) s).setLane i
      (((endTransaction i (Final.plain .aborted) s).lane i).waits tag) := by
  simp only [laneReset_eq, abandonLane, h]

theorem laneReset_of_faulted {tag : Byte} {i : Fin 4} {s : State} (h : (s.lane i).state = .faulted) :
    laneReset tag i s =
      post (.laneState i .recovering .reset) (s.setLane i (((s.lane i).recover true).waits tag)) := by
  simp only [laneReset_eq, abandonLane, h, post_lane, ← post_setLane, State.setLane_lane_self, State.setLane_setLane]

/-- Settles O28, by the State of the lane (R60). -/
theorem laneResetBeginsRecovery : Obligations.LaneResetBeginsRecovery := by
  intro s tag hadm hop
  have hop' : (admitted tag s).op ≠ .init := hop
  refine ⟨fun b hb => ?_, ?_⟩
  · rw [exec_laneReset hadm, runLaneReset, checkLaneReset_out_of_range hb hop', carryOut_error]
    rfl
  · rintro i _ rfl _ rfl _ rfl
    rw [exec_laneReset hadm, runLaneReset, checkLaneReset_byte i hop', carryOut_check, carryOut_ok]
    refine next_arbitrate_congr ?_
    cases h : (s.lane i).state with
    | off => exact if_pos h
    | idle => rw [if_neg (by simp [h]), laneReset_of_idle (s := admitted tag s) h]; rfl
    | busy => rw [if_neg (by simp [h]), laneReset_of_busy (s := admitted tag s) h]; rfl
    | recovering => rw [if_neg (by simp [h]), laneReset_of_recovering (s := admitted tag s) h]; rfl
    | faulted => rw [if_neg (by simp [h]), laneReset_of_faulted (s := admitted tag s) h]; rfl

end Sys2Proof.Machine

/-! PROOF. The events that end an attempt (R49 to R54) and a recovery procedure (R57 to R61), with the statements
about them. -/

namespace Sys2Proof.Machine

/-! ### Attempts (R49 to R54) -/

theorem onTransaction_busy {i : Fin 4} {s : State} {x : Transaction} (h : (s.lane i).state = .busy)
    (hx : (s.lane i).txn = some x) (k : Transaction → Host.Outcome State Fault Refusal) :
    onTransaction i s k = k x := by
  simp only [onTransaction, h, hx]

theorem onTransaction_not_busy {i : Fin 4} {s : State} (h : (s.lane i).state ≠ .busy)
    (k : Transaction → Host.Outcome State Fault Refusal) : onTransaction i s k = .next s := by
  unfold onTransaction
  split
  · exact absurd ‹_› h
  · rfl

/-- The three conditions of a retry (R54). -/
theorem mayRetry_iff (s : State) (i : Fin 4) (x : Transaction) :
    mayRetry s i x = true ↔
      x.work ≠ .probe ∧ x.attempt - 1 < (s.target x.target).retryLimit.val ∧ x.cost ≤ (s.lane i).remaining := by
  simp [mayRetry, and_assoc]

/-- A READ that ends OK carries the bytes read, a WRITE that does has written all of its data bytes (R50). -/
theorem finalOf_completed {x : Transaction} {data : List Byte} (h : data.length = x.dataRead) :
    finalOf x (.completed data) = some ⟨.ok, data, x.dataWritten⟩ := if_pos h

/-- A byte not acknowledged: `w` register bytes are written before the data bytes (R51). -/
theorem finalOf_notAcknowledged {x : Transaction} {k w : Nat} (hk : k < writtenCount x.segments)
    (hw : writtenCount x.segments = w + x.dataWritten) :
    finalOf x (.notAcknowledged k) = some ⟨.dataNack, [], k - w⟩ := by
  have hregisters : writtenCount x.segments - x.dataWritten = w := by omega
  rw [finalOf, if_pos hk, hregisters]

/-- Settles O34: the retry by the three conditions of R54, the other ends by the event that reports each. -/
theorem attemptsEnd : Obligations.AttemptsEnd := by
  refine ⟨?_, ?_⟩
  · rintro s i _ rfl
    refine ⟨fun h => onTransaction_not_busy h _, ?_⟩
    rintro x hx hbusy _ rfl
    refine (onTransaction_busy hbusy hx _).trans (ite_congr (propext (mayRetry_iff s i x)) (fun _ => ?_) fun _ => rfl)
    rcases x with ⟨_ | _ | _ | _⟩ <;> rfl
  · rintro s i _ rfl x hx hbusy _ rfl
    have reported := onTransaction_busy hbusy hx
    refine ⟨fun data hdata => ?_, fun k w hk hw => ?_, reported _, reported _, reported _⟩
    · refine (reported _).trans ?_
      rw [finalOf_completed hdata]
      rfl
    · refine (reported _).trans ?_
      rw [finalOf_notAcknowledged hk hw]
      rfl

/-! ### The end of a recovery (R57, R59, R61) -/

theorem recoveredIdle_eq (i : Fin 4) (s : State) {u : State}
    (hu : u = s.setLane i { s.lane i with
      state := .idle, waitingResets := [], fromFault := false
      lookOwed := if s.op = .running then true else (s.lane i).lookOwed }) :
    recoveredIdle i s = if (s.lane i).fromFault then post (.laneState i .idle .recovered) u else u := by
  have htold :
      wakeLane i (s.setLane i { s.lane i with state := .idle, waitingResets := [], fromFault := false }) = u := by
    rw [wakeLane_setLane, told_of_idle rfl, hu]
  rw [recoveredIdle, ← htold, ← wakeLane_post]
  exact apply_ite (wakeLane i) _ _ _

/-- While SDA is found low the recovery procedure sends a pulse for each finding, as far as its pulses go (R57). -/
theorem recoveryCourse_low (n left : Nat) (found : List LineAnswer) :
    recoveryCourse (n + left) (List.replicate n (.sda false) ++ found) =
      (List.replicate n .pulse ++ (recoveryCourse left found).1, (recoveryCourse left found).2) := by
  induction n with
  | zero => simp
  | succ n ih =>
    rw [Nat.add_right_comm, List.replicate_succ, List.cons_append, recoveryCourse, ih]
    rfl

theorem recoveryCourse_free (left : Nat) : recoveryCourse left [.sda true, .sda true] = ([.stop], .busFree) := by
  simp [recoveryCourse]

theorem recoveryCourse_sclHeld (left : Nat) : recoveryCourse left [.sclHeld] = ([], .sclHeld) := by
  simp [recoveryCourse]

/-- Settles O39: the ends by the row that reports each, the pulses by their number. -/
theorem recoveryEnds : Obligations.RecoveryEnds := by
  refine ⟨?_, ?_, ?_, ?_, fun _ => ⟨rfl, rfl, rfl⟩⟩
  · rintro s i _ rfl _ rfl _ rfl
    refine ⟨fun h result => ⟨if_neg h, if_neg h⟩, fun h => ⟨fun u hu => ?_, if_pos h, if_pos h⟩⟩
    refine (if_pos h).trans ?_
    dsimp only
    rw [recoveredIdle_eq i s hu]
    rfl
  · rintro n hn _ rfl _ rfl
    have hlow := recoveryCourse_low n (12 - n)
    rw [Nat.add_sub_of_le hn] at hlow
    rw [hlow, hlow, recoveryCourse_free, recoveryCourse_sclHeld]
    exact ⟨rfl, by simp⟩
  · exact recoveryCourse_low 12 0 [.sda false]
  · rintro left found _ rfl
    rw [recoveryCourse]

end Sys2Proof.Machine

/-! PROOF. What an attempt costs, sends and puts on the bus (R41, R48 to R53, R60), with the statement about it. -/

namespace Sys2Proof.Machine

/-! ### Segments and their cost (R41, R50) -/

@[simp] theorem length_registerBytes (width : Fin 3) (register : Word16) :
    (registerBytes width register).length = width.val := by
  match width with
  | 0 | 1 | 2 => rfl

/-- The bytes of the segments and one byte-time for each (R41). -/
theorem segmentsOf_cost (t : Target) (op : Operation) (register : Word16) (n : Nat) {data : List Byte}
    (h : op = .write → data.length = n) :
    ((segmentsOf t op register n data).map fun g => 1 + g.written.length + g.reads + 1).sum =
      costOf op t.width.val n := by
  cases op with
  | read =>
    by_cases hw : t.width = 0
    · simp [segmentsOf, costOf, hw]
      omega
    · have hv : t.width.val ≠ 0 := fun e => hw (Fin.ext e)
      simp [segmentsOf, costOf, hw]
      omega
  | write =>
    simp [segmentsOf, costOf, h rfl]
    omega
  | probe => rfl

/-- The Bus Address in the upper seven bits, the read bit or write bit in the lowest (R50). -/
theorem addressByte_eq (address : BitVec 7) (read : Bool) :
    addressByte address read = BitVec.ofNat 8 (2 * address.toNat + read.toNat) := by
  apply BitVec.eq_of_toNat_eq
  have hlt : (BitVec.ofBool read).toNat < 2 ^ 1 := (BitVec.ofBool read).isLt
  rw [addressByte, BitVec.toNat_append, ← Nat.shiftLeft_add_eq_or_of_lt hlt, BitVec.toNat_ofNat]
  cases read <;> simp [Nat.shiftLeft_eq] <;> omega

theorem registerBytes_eq (width : Fin 3) (register : Word16) :
    registerBytes width register =
      if width = 0 then [] else if width = 1 then [BitVec.ofNat 8 register.toNat]
      else [BitVec.ofNat 8 (register.toNat / 256), BitVec.ofNat 8 register.toNat] := by
  have hlow : register.extractLsb' 0 8 = BitVec.ofNat 8 register.toNat := rfl
  have hhigh : register.extractLsb' 8 8 = BitVec.ofNat 8 (register.toNat / 256) := by
    rw [BitVec.extractLsb', Nat.shiftRight_eq_div_pow]
  match width with
  | 0 => rfl
  | 1 => simp [registerBytes, hlow]
  | 2 => simp [registerBytes, hlow, hhigh]

/-! ### The items of an attempt (R50, R51) -/

/-- The marks of bytes of the part that the target acknowledges (R51). -/
def sentMarks (bs : List Byte) : List BusMark := bs.flatMap fun b => (BusItem.written b).marks true

/-- The marks of a byte of the part that the target does not acknowledge, and the STOP after it (R51). -/
def refusedMarks (b : Byte) : List BusMark := (BusItem.written b).marks false ++ [.stop]

theorem readItems_concat (bs : List Byte) (last : Byte) :
    readItems (bs ++ [last]) = bs.map (BusItem.read · false) ++ [.read last true] := by
  induction bs with
  | nil => rfl
  | cons b rest ih =>
    cases rest with
    | nil => rfl
    | cons c rest => exact congrArg (BusItem.read b false :: ·) ih

/-- The marks of the bytes read: the part acknowledges every byte but the last (R51). -/
def readMarks (data : List Byte) : List BusMark := (readItems data).flatMap (BusItem.marks true)

theorem readMarks_eq (data : List Byte) :
    readMarks data = match data.getLast? with
      | some last => data.dropLast.flatMap (fun b => byteBits .target b ++ [.bit .part false])
          ++ (byteBits .target last ++ [.bit .part true])
      | none => [] := by
  rcases data.eq_nil_or_concat with rfl | ⟨bs, last, rfl⟩
  · rfl
  · rw [List.concat_eq_append, List.getLast?_concat, List.dropLast_concat, readMarks, readItems_concat,
      List.flatMap_append, List.flatMap_map,
      List.flatMap_singleton]
    rfl

theorem carriedMarks_written (bs : List Byte) (n : Nat) (items : List BusItem) :
    carriedMarks (some (bs.length + n)) (bs.map .written ++ items) = sentMarks bs ++ carriedMarks (some n) items := by
  induction bs with
  | nil => simp [sentMarks]
  | cons b rest ih =>
    rw [List.length_cons, Nat.add_right_comm, List.map_cons, List.cons_append, carriedMarks, ih]
    simp [sentMarks]

theorem attemptEnd_written (bs : List Byte) (n : Nat) (items : List BusItem) (written : Nat) :
    attemptEnd written (some (bs.length + n)) (bs.map .written ++ items) =
      attemptEnd (written + bs.length) (some n) items := by
  induction bs generalizing written with
  | nil => simp
  | cons b rest ih =>
    rw [List.length_cons, Nat.add_right_comm, List.map_cons, List.cons_append, attemptEnd, ih]
    congr 1
    omega

/-- A segment whose bytes are all acknowledged (R50, R51). -/
theorem flatMap_marks_items (g : Segment) (data : List Byte) :
    (g.items data).flatMap (BusItem.marks true) =
      sentMarks (g.address :: g.written) ++ readMarks (data.take g.reads) := by
  simp only [Segment.items, List.flatMap_cons, List.flatMap_append, List.flatMap_map, sentMarks, readMarks,
    List.append_assoc]
  rfl

/-! ### Attempts that come to their STOP (R50, R51) -/

theorem Course.marks_carried (gs : List Segment) (data : List Byte) (nack : Option Nat) :
    Course.marks gs data (.carried nack) = carriedMarks nack (attemptItems data gs) := rfl

/-- An attempt with every byte acknowledged is reported OK with the bytes read (R50). -/
theorem Course.row_carried_none (i : Fin 4) (gs : List Segment) (data : List Byte) :
    Course.row i gs data (.carried none) = some (.transactionEnd i (.completed data)) := by
  simp only [Course.row, Course.taken, attemptEnd_none]

/-- The items of an attempt whose first segment sends the bytes `before` after its address byte. -/
theorem attemptItems_written (a b : Byte) (before after : List Byte) (n : Nat) (gs : List Segment) (data : List Byte) :
    ∃ rest, attemptItems data (⟨a, before ++ b :: after, n⟩ :: gs) =
      .opening .start :: .address a :: (before.map .written ++ .written b :: rest) :=
  ⟨after.map .written ++ (readItems (data.take n) ++ laterItems data gs), by simp [attemptItems, Segment.items]⟩

/-- The bytes of the first segment up to one that is not acknowledged, which is followed by STOP (R51). -/
theorem Course.marks_refused {a b : Byte} {w before after : List Byte} (h : a :: w = before ++ b :: after) (n : Nat)
    (gs : List Segment) (data : List Byte) :
    Course.marks (⟨a, w, n⟩ :: gs) data (.carried (some before.length)) =
      .start :: (sentMarks before ++ refusedMarks b) := by
  cases before with
  | nil =>
    obtain ⟨rfl, rfl⟩ : a = b ∧ w = after := List.cons.inj h
    rfl
  | cons c before =>
    obtain ⟨rfl, rfl⟩ : a = c ∧ w = before ++ b :: after := List.cons.inj h
    obtain ⟨rest, hitems⟩ := attemptItems_written a b before after n gs data
    have hwritten := carriedMarks_written before 0 (.written b :: rest)
    rw [Course.marks_carried, hitems, List.length_cons, carriedMarks, carriedMarks, ← Nat.add_zero before.length,
      hwritten]
    rfl

/-- ADDR_NACK for the address byte, DATA_NACK with the bytes before it for another (R51, R54). -/
theorem Course.row_refused {a b : Byte} {w before after : List Byte} (h : a :: w = before ++ b :: after) (i : Fin 4)
    (n : Nat) (gs : List Segment) (data : List Byte) :
    Course.row i (⟨a, w, n⟩ :: gs) data (.carried (some before.length)) =
      some (if before = [] then .attemptAddrNack i else .transactionEnd i (.notAcknowledged (before.length - 1))) := by
  cases before with
  | nil => rfl
  | cons c before =>
    obtain ⟨rfl, rfl⟩ : a = c ∧ w = before ++ b :: after := List.cons.inj h
    obtain ⟨rest, hitems⟩ := attemptItems_written a b before after n gs data
    have hwritten : attemptEnd 0 (some (before.length + 1)) (attemptItems data (⟨a, before ++ b :: after, n⟩ :: gs)) =
        .dataNack before.length := by
      rw [hitems, attemptEnd, attemptEnd, ← Nat.add_zero before.length, attemptEnd_written, Nat.zero_add]
      rfl
    simp only [Course.row, Course.taken, List.length_cons, hwritten]
    rfl

/-- A segment of written bytes and one that reads, opened by a repeated START (R50). -/
theorem attemptItems_pair (a c : Byte) (w : List Byte) (n : Nat) (data : List Byte) :
    attemptItems data [⟨a, w, 0⟩, ⟨c, [], n⟩] =
      .opening .start :: .address a :: (w.map .written ++ .opening .repeatedStart :: .address c ::
        readItems (data.take n)) := by
  simp [attemptItems, laterItems, Segment.items, readItems]

/-- The address byte of the second segment is not acknowledged (R51). -/
theorem Course.marks_refused_second (a c : Byte) (w : List Byte) (n : Nat) (data : List Byte) :
    Course.marks [⟨a, w, 0⟩, ⟨c, [], n⟩] data (.carried (some (w.length + 1))) =
      .start :: (sentMarks (a :: w) ++ .repeatedStart :: refusedMarks c) := by
  rw [Course.marks_carried, attemptItems_pair, carriedMarks, carriedMarks, ← Nat.add_zero w.length,
    carriedMarks_written]
  simp [sentMarks]
  rfl

theorem Course.row_refused_second (i : Fin 4) (a c : Byte) (w : List Byte) (n : Nat) (data : List Byte) :
    Course.row i [⟨a, w, 0⟩, ⟨c, [], n⟩] data (.carried (some (w.length + 1))) = some (.attemptAddrNack i) := by
  have hend : attemptEnd 0 (some (w.length + 1)) (attemptItems data [⟨a, w, 0⟩, ⟨c, [], n⟩]) = .addrNack := by
    rw [attemptItems_pair, attemptEnd, attemptEnd, ← Nat.add_zero w.length, attemptEnd_written]
    rfl
  simp only [Course.row, Course.taken, hend]

/-- The marks of a segment of written bytes, acknowledged throughout. -/
theorem Course.marks_sent (a : Byte) (w : List Byte) :
    Course.marks [⟨a, w, 0⟩] [] (.carried none) = .start :: (sentMarks (a :: w) ++ [.stop]) := by
  rw [Course.marks_carried, carriedMarks_none, attemptItems, List.flatMap_cons, List.flatMap_append,
    flatMap_marks_items]
  simp [laterItems, BusItem.marks, readMarks, readItems]

/-- The marks of a segment that reads, acknowledged throughout. -/
theorem Course.marks_read (c : Byte) (data : List Byte) :
    Course.marks [⟨c, [], data.length⟩] data (.carried none) =
      .start :: (sentMarks [c] ++ readMarks data ++ [.stop]) := by
  rw [Course.marks_carried, carriedMarks_none, attemptItems, List.flatMap_cons, List.flatMap_append,
    flatMap_marks_items]
  simp [laterItems, BusItem.marks]

theorem Course.marks_pair (a c : Byte) (w data : List Byte) :
    Course.marks [⟨a, w, 0⟩, ⟨c, [], data.length⟩] data (.carried none) =
      .start :: (sentMarks (a :: w) ++ .repeatedStart :: (sentMarks [c] ++ readMarks data ++ [.stop])) := by
  rw [Course.marks_carried, carriedMarks_none, attemptItems, laterItems, List.flatMap_cons, List.flatMap_append,
    flatMap_marks_items, List.flatMap_cons, List.flatMap_append, flatMap_marks_items]
  simp [laterItems, BusItem.marks, readMarks, readItems]

/-! ### Attempts that are cut short (R52, R53, R60) -/

/-- The marks in which a cause can cut an attempt short (R52, R53, R60). -/
theorem Cut.strikes_iff (cause : Cut) (m : BusMark) :
    cause.strikes m = true ↔ match cause with
      | .stretchTimeout => m = .repeatedStart ∨ m = .stop ∨ ∃ side level, m = .bit side level
      | .arbLost => m = .repeatedStart ∨ m = .stop ∨ m = .bit .part true
      | .aborted => True := by
  rcases cause with _ | _ | _
  · rcases m with _ | _ | _ | _ | _ <;> simp [Cut.strikes, BusMark.releasesScl]
  · rcases m with _ | _ | _ | ⟨_ | _, _⟩ | _ <;> simp [Cut.strikes, BusMark.readsSdaBack]
  · exact iff_of_true rfl trivial

/-- One item of an attempt brings no STOP but the one that ends the attempt (R50, R51). -/
theorem carriedMarks_cons {item : BusItem} (h : item ≠ .opening .stop) (nack : Option Nat) (rest : List BusItem) :
    ∃ ms, .stop ∉ ms ∧ (carriedMarks nack (item :: rest) = ms ++ [.stop] ∨
      ∃ later, carriedMarks nack (item :: rest) = ms ++ carriedMarks later rest) := by
  have hbits (side : Side) (b : Byte) (ack : BusMark) (hack : ack ≠ .stop) : .stop ∉ byteBits side b ++ [ack] := by
    simp [byteBits, Ne.symm hack]
  cases item with
  | opening c =>
    exact ⟨[c], by simpa [eq_comm] using h, .inr ⟨nack, by rcases nack with _ | _ | _ <;> rfl⟩⟩
  | read b last =>
    exact ⟨_, hbits .target b (ackBit .part (!last)) nofun, .inr ⟨nack, by rcases nack with _ | _ | _ <;> rfl⟩⟩
  | address b | written b =>
    rcases nack with _ | _ | n
    · exact ⟨_, hbits .part b (ackBit .target true) nofun, .inr ⟨none, rfl⟩⟩
    · exact ⟨_, hbits .part b (ackBit .target false) nofun, .inl rfl⟩
    · exact ⟨_, hbits .part b (ackBit .target true) nofun, .inr ⟨some n, rfl⟩⟩

/-- The STOP that ends an attempt is its only one (R50, R51). -/
theorem carriedMarks_one_stop {items : List BusItem} (h : .opening .stop ∉ items) (nack : Option Nat) :
    ∃ ms, .stop ∉ ms ∧ carriedMarks nack items = ms ++ [.stop] := by
  induction items generalizing nack with
  | nil => exact ⟨[], by simp, by rcases nack with _ | _ | _ <;> rfl⟩
  | cons item rest ih =>
    obtain ⟨hitem, hrest⟩ := not_or.1 (fun e => h (List.mem_cons.2 e))
    obtain ⟨ms, hms, hend | ⟨later, hlater⟩⟩ := carriedMarks_cons (Ne.symm hitem) nack rest
    · exact ⟨ms, hms, hend⟩
    · obtain ⟨ns, hns, htail⟩ := ih hrest later
      exact ⟨ms ++ ns, by simp [hms, hns], by rw [hlater, htail, List.append_assoc]⟩

theorem opening_notMem_readItems (c : BusMark) (data : List Byte) : .opening c ∉ readItems data := by
  rcases data.eq_nil_or_concat with rfl | ⟨bs, last, rfl⟩
  · simp [readItems]
  · simp [readItems_concat]

theorem opening_notMem_items (c : BusMark) (g : Segment) (data : List Byte) : .opening c ∉ g.items data := by
  simp [Segment.items, opening_notMem_readItems]

theorem opening_stop_notMem_laterItems (gs : List Segment) (data : List Byte) :
    .opening .stop ∉ laterItems data gs := by
  induction gs with
  | nil => simp [laterItems]
  | cons g gs ih => simp [laterItems, opening_notMem_items, ih]

/-- No segment is opened by a STOP (R50). -/
theorem opening_stop_notMem_attemptItems (gs : List Segment) (data : List Byte) :
    .opening .stop ∉ attemptItems data gs := by
  cases gs with
  | nil => simp [attemptItems]
  | cons g gs => simp [attemptItems, opening_notMem_items, opening_stop_notMem_laterItems]

/-- Before any of its marks an attempt has sent no STOP (R52, R53). -/
theorem stop_notMem_take {gs : List Segment} {data : List Byte} {nack : Option Nat} {count : Nat}
    (h : count < (carriedMarks nack (attemptItems data gs)).length) :
    .stop ∉ (carriedMarks nack (attemptItems data gs)).take count := by
  obtain ⟨ms, hms, hend⟩ := carriedMarks_one_stop (opening_stop_notMem_attemptItems gs data) nack
  rw [hend, List.length_append, List.length_singleton] at h
  rw [hend, List.take_append_of_le_length (by omega)]
  exact fun hmem => hms (List.mem_of_mem_take hmem)

theorem Course.taken_cut_of_strikes {gs : List Segment} {data : List Byte} {cause : Cut} {nack : Option Nat}
    {count : Nat}
    {m : BusMark} (hm : (carriedMarks nack (attemptItems data gs))[count]? = some m) (hs : cause.strikes m = true) :
    Course.taken gs data (.cut cause nack count) = .cut cause nack count := by
  simp [Course.taken, hm, hs]

/-- Settles O51: the cost and the segments by operation, the marks of the attempts that come to their STOP by their
items, and the attempts cut short by whether the cause strikes. -/
theorem costCountsSegments : Obligations.CostCountsSegments := by
  refine ⟨fun t op register n data h => ⟨segmentsOf_cost t op register n h, ?_⟩, ?_,
    ⟨rfl, rfl, rfl, rfl, fun _ _ => rfl⟩,
    ?_, ?_⟩
  · cases op with
    | read => exact ite_congr (propext (Fin.val_eq_zero_iff ..)) (fun _ => rfl) fun _ => rfl
    | write | probe => rfl
  · intro t register n data sendTo readFrom regs hsend hread hregs
    obtain rfl : addressByte t.busAddress false = sendTo := (addressByte_eq ..).trans hsend.symm
    obtain rfl : addressByte t.busAddress true = readFrom := (addressByte_eq ..).trans hread.symm
    obtain rfl : registerBytes t.width register = regs := (registerBytes_eq ..).trans hregs.symm
    exact ⟨rfl, rfl, rfl, rfl, rfl, rfl⟩
  · rintro _ rfl _ rfl _ rfl i a w
    refine ⟨⟨Course.marks_sent a w, Course.row_carried_none ..⟩,
      fun gs data before after b h => ⟨Course.marks_refused h 0 gs data, Course.row_refused h i 0 gs data⟩, ?_⟩
    rintro c _ data rfl reads hreads
    obtain rfl : readMarks data = reads := (readMarks_eq data).trans hreads.symm
    exact ⟨Course.marks_read c data, Course.row_carried_none .., rfl, rfl, Course.marks_pair a c w data,
      Course.row_carried_none .., Course.marks_refused_second .., Course.row_refused_second ..⟩
  · refine fun i gs data nack count => ⟨rfl, rfl, ?_⟩
    rintro cause _ rfl _ rfl
    refine ⟨fun m hm hs => ?_, fun hs => ?_⟩
    · have hstrikes := (cause.strikes_iff m).2 hs
      refine ⟨Course.marks_cut_of_strikes hm hstrikes, stop_notMem_take (List.getElem?_eq_some_iff.1 hm).1, ?_⟩
      rw [Course.row, Course.taken_cut_of_strikes hm hstrikes]
      cases cause <;> rfl
    · have htaken := Course.taken_cut_of_not_strikes fun m hm =>
        Bool.eq_false_iff.2 fun h => hs m hm ((cause.strikes_iff m).1 h)
      constructor
      · rw [Course.marks, htaken]
        rfl
      · rw [Course.row, htaken]
        rfl

end Sys2Proof.Machine

/-! PROOF. Looking for work (R42 to R47): what the examination of each tier comes to, by its head and the result space
it needs, what a whole look makes of that, and the statements about looking that finds nothing or starts a
transaction. -/

namespace Sys2Proof.Machine

/-! ### Result space (R46, R109) -/

theorem slotFree_iff (s : State) : s.slotFree = true ↔ s.records.length + s.reservations < 48 :=
  decide_eq_true_iff

theorem reservationFor_eq {work : Work} (h : work ≠ .probe) (op : Operation) :
    reservationFor work op = if op = .read then .slotAndBlock else .slot := by
  cases work with
  | probe => exact absurd rfl h
  | poll | alert | job => cases op <;> rfl

/-- A read needs a record slot and a block, other work a slot (R46). -/
theorem hasSpace_iff {work : Work} (h : work ≠ .probe) (op : Operation) (s : State) :
    hasSpace (reservationFor work op) s = true ↔
      s.records.length + s.reservations < 48 ∧ (op = .read → 1 ≤ s.pool.free) := by
  rw [reservationFor_eq h]
  cases op <;> simp [hasSpace, slotFree_iff, Nat.succ_le_iff]

/-! ### Examining a head (R45, R46) -/

/-- Lane `i` with its Tier-Closed flags changed (R45). -/
def closeTier (i : Fin 4) (close : TierFlags → TierFlags) (s : State) : State :=
  s.setLane i { s.lane i with closed := close (s.lane i).closed }

theorem closeTier_lane (i : Fin 4) (f : TierFlags → TierFlags) (s : State) :
    (closeTier i f s).lane i = { s.lane i with closed := f (s.lane i).closed } := State.setLane_lane_self ..

section
variable {i : Fin 4} {x : Transaction} {close start : State → State} {s : State}

theorem examineHead_closes (h : (s.lane i).remaining < x.cost) : examineHead i x close start s = .passed (close s) :=
  if_pos h

theorem examineHead_starts (hcost : x.cost ≤ (s.lane i).remaining)
    (hspace : hasSpace (reservationFor x.work x.op) s = true) :
    examineHead i x close start s = .started (startTransaction i x (start s)) :=
  (if_neg (Nat.not_lt.2 hcost)).trans (if_pos hspace)

theorem examineHead_waits (hcost : x.cost ≤ (s.lane i).remaining)
    (hspace : ¬ hasSpace (reservationFor x.work x.op) s = true) :
    examineHead i x close start s = .passed s :=
  (if_neg (Nat.not_lt.2 hcost)).trans (if_neg hspace)

/-- A head that waits for result space is passed over (R46). -/
theorem examineHead_of_headWaits (hwork : x.work ≠ .probe)
    (hcost : x.cost = costOf x.op (s.target x.target).width.val x.byteCount)
    (hactive : (s.target x.target).state ≠ .quarantined) (h : HeadWaits s i x.target x.op x.byteCount) :
    examineHead i x close start s = .passed s := by
  rw [HeadWaits, if_neg hactive, ← hcost] at h
  obtain ⟨hcost, hspace⟩ := h
  refine examineHead_waits hcost fun hfree => ?_
  obtain ⟨hslot, hblock⟩ := (hasSpace_iff hwork x.op s).1 hfree
  rcases hspace with hspace | ⟨hread, hspace⟩
  · omega
  · have := hblock hread
    omega

end

/-! ### The tiers (R42, R44) -/

section
variable (i : Fin 4) (s : State)

/-- The transaction of a revival probe (R100). -/
def probeTransaction (t : Fin 32) : Transaction := newTransaction s .probe 0 t .probe 0 0 []

/-- The transaction of an alert read, of the bound poll's definition as it stands (R84). -/
def alertTransaction (a : Fin 8) : Transaction :=
  let e := s.poll (s.line a).boundPoll
  newTransaction s (.alert a) e.generation e.defn.target .read e.defn.register e.defn.byteCount []

/-- The transaction of a scheduled poll (R47). -/
def pollTransaction (p : Fin 48) : Transaction :=
  let e := s.poll p
  newTransaction s (.poll p) e.generation e.defn.target .read e.defn.register e.defn.byteCount []

/-- The transaction of a job (R47). -/
def jobTransaction (j : Job) : Transaction :=
  newTransaction s (.job j) 0 j.target j.kind j.register j.byteCount (j.data.getD [])

variable {i s}

theorem lookProbe_passed (h : (s.lane i).closed.probe = true ∨ (s.lane i).probeTier = []) :
    lookProbe i s = .passed s := by
  unfold lookProbe
  split
  · simp_all
  · rfl

theorem lookProbe_head {t : Fin 32} {rest : List (Fin 32)} (hopen : (s.lane i).closed.probe = false)
    (htier : (s.lane i).probeTier = t :: rest) :
    lookProbe i s = examineHead i (probeTransaction s t) (closeTier i fun c => { c with probe := true })
      (fun u => u.setLane i { u.lane i with probeTier := rest }) s := by
  simp only [lookProbe, hopen, htier]
  rfl

theorem lookAlert_shut (h : (s.lane i).closed.alert = true ∨ (s.lane i).alertTier = []) :
    lookAlert i s = .passed s := by
  unfold lookAlert
  split
  · simp_all
  · rfl

theorem lookAlert_head {a : Fin 8} {rest : List (Fin 8)} (hopen : (s.lane i).closed.alert = false)
    (htier : (s.lane i).alertTier = a :: rest)
    (hactive : (s.target (s.poll (s.line a).boundPoll).defn.target).state ≠ .quarantined) :
    lookAlert i s = examineHead i (alertTransaction s a) (closeTier i fun c => { c with alert := true })
      (fun u => startLine a (u.setLane i { u.lane i with alertTier := rest })) s := by
  simp only [lookAlert, hopen, htier, (isQuarantined_eq_false s _).2 hactive]
  rfl

theorem lookAlert_quarantined {a : Fin 8} {rest : List (Fin 8)} (hopen : (s.lane i).closed.alert = false)
    (htier : (s.lane i).alertTier = a :: rest)
    (hq : (s.target (s.poll (s.line a).boundPoll).defn.target).state = .quarantined) :
    lookAlert i s =
      if s.slotFree then .settled (settleAlert a (s.setLane i { s.lane i with alertTier := rest })) else .passed s := by
  simp [lookAlert, hopen, htier, State.isQuarantined, hq]

/-- A head of a QUARANTINED target waits where no slot is free to settle it (R44). -/
theorem slotFree_of_headWaits {t : Fin 32} {op : Operation} {n : Nat} (hq : (s.target t).state = .quarantined)
    (h : HeadWaits s i t op n) : ¬ s.slotFree = true := by
  rw [HeadWaits, if_pos hq] at h
  rw [slotFree_iff]
  omega

theorem lookAlert_passed (h : AlertTierPassed s i) : lookAlert i s = .passed s := by
  rcases h with hshut | hempty | ⟨a, ha, hwaits⟩
  · exact lookAlert_shut (.inl hshut)
  · exact lookAlert_shut (.inr hempty)
  · obtain ⟨rest, htier⟩ := List.head?_eq_some_iff.1 ha
    by_cases hopen : (s.lane i).closed.alert = false
    · by_cases hq : (s.target (s.poll (s.line a).boundPoll).defn.target).state = .quarantined
      · rw [lookAlert_quarantined hopen htier hq, if_neg (slotFree_of_headWaits hq hwaits)]
      · rw [lookAlert_head hopen htier hq]
        exact examineHead_of_headWaits (x := alertTransaction s a) nofun rfl hq hwaits
    · exact lookAlert_shut (.inl (by simpa using hopen))

theorem skipQuarantined_of_active {p : Fin 48} (rest : List (Fin 48))
    (hactive : (s.target (s.poll p).defn.target).state ≠ .quarantined) : skipQuarantined i (p :: rest) s = s :=
  if_neg (by simpa [State.isQuarantined] using hactive)

theorem lookSchedule_shut (h : (s.lane i).closed.schedule = true ∨ (s.lane i).workList = []) :
    lookSchedule i s = .passed s := by
  unfold lookSchedule
  split
  · rfl
  · have hempty : (s.lane i).workList = [] := by simp_all
    simp only [hempty, skipQuarantined, lookPoll]

theorem lookSchedule_head {p : Fin 48} {rest : List (Fin 48)} (hopen : (s.lane i).closed.schedule = false)
    (htier : (s.lane i).workList = p :: rest) (hactive : (s.target (s.poll p).defn.target).state ≠ .quarantined) :
    lookSchedule i s = examineHead i (pollTransaction s p) (closeTier i fun c => { c with schedule := true })
      (fun u => u.setLane i { u.lane i with workList := rest }) s := by
  rw [lookSchedule, if_neg (by simp [hopen]), htier, skipQuarantined_of_active rest hactive]
  simp only [lookPoll, htier]
  rfl

theorem lookSchedule_passed (h : ScheduleTierPassed s i) : lookSchedule i s = .passed s := by
  rcases h with hshut | hempty | ⟨p, hp, hactive, hwaits⟩
  · exact lookSchedule_shut (.inl hshut)
  · exact lookSchedule_shut (.inr hempty)
  · obtain ⟨rest, htier⟩ := List.head?_eq_some_iff.1 hp
    by_cases hopen : (s.lane i).closed.schedule = false
    · rw [lookSchedule_head hopen htier hactive]
      exact examineHead_of_headWaits (x := pollTransaction s p) nofun rfl hactive hwaits
    · exact lookSchedule_shut (.inl (by simpa using hopen))

theorem lookJob_shut (h : (s.lane i).closed.job = true ∨ (s.lane i).jobs = []) : lookJob i s = .passed s := by
  unfold lookJob
  split
  · simp_all
  · rfl

theorem lookJob_head {j : Job} {rest : List Job} (hopen : (s.lane i).closed.job = false)
    (htier : (s.lane i).jobs = j :: rest) (hactive : (s.target j.target).state ≠ .quarantined) :
    lookJob i s = examineHead i (jobTransaction s j) (closeTier i fun c => { c with job := true })
      (fun u => u.setLane i { u.lane i with jobs := rest }) s := by
  simp only [lookJob, hopen, htier, (isQuarantined_eq_false s _).2 hactive]
  rfl

theorem lookJob_quarantined {j : Job} {rest : List Job} (hopen : (s.lane i).closed.job = false)
    (htier : (s.lane i).jobs = j :: rest) (hq : (s.target j.target).state = .quarantined) :
    lookJob i s =
      if s.slotFree then .settled (endQueuedJob j .quarantined (s.setLane i { s.lane i with jobs := rest }))
      else .passed s := by
  simp [lookJob, hopen, htier, State.isQuarantined, hq]

theorem lookJob_passed (h : JobTierPassed s i) : lookJob i s = .passed s := by
  rcases h with hshut | hempty | ⟨j, hj, hwaits⟩
  · exact lookJob_shut (.inl hshut)
  · exact lookJob_shut (.inr hempty)
  · obtain ⟨rest, htier⟩ := List.head?_eq_some_iff.1 hj
    by_cases hopen : (s.lane i).closed.job = false
    · by_cases hq : (s.target j.target).state = .quarantined
      · rw [lookJob_quarantined hopen htier hq, if_neg (slotFree_of_headWaits hq hwaits)]
      · rw [lookJob_head hopen htier hq]
        exact examineHead_of_headWaits (x := jobTransaction s j) nofun rfl hq hwaits
    · exact lookJob_shut (.inl (by simpa using hopen))

end

/-! ### One look (R43, R44) -/

/-- Lane `i` looks for work at a LOOK_FOR_WORK (R43). -/
abbrev Looks (s : State) (i : Fin 4) : Prop :=
  (s.lane i).state = .idle ∧ s.op = .running ∧ (s.lane i).lookOwed = true

/-- A lane that has looked for work. -/
def Lane.looked (l : Lane) : Lane := { l with lookOwed := false }

/-- What a pass comes to, `again` being the passes after a settlement (R44). -/
def Look.after (r : Look) (again : State → State) : State :=
  match r with
  | .started t | .passed t => t
  | .settled t => again t

section
variable {i : Fin 4} {s : State}

theorem lookPasses_succ (i : Fin 4) (fuel : Nat) (s : State) :
    lookPasses i (fuel + 1) s = (lookOnce i s).after (lookPasses i fuel) := by
  unfold lookPasses
  cases lookOnce i s <;> rfl

theorem look_of_passed {t : State} (h : lookOnce i s = .passed t) : look i s = t.setLane i (t.lane i).looked := by
  have hpasses : lookPasses i (lookFuel (s.lane i)) s = t := by rw [lookFuel, lookPasses_succ, h]; rfl
  rw [look, hpasses]
  rfl

theorem look_of_started {t : State} (h : lookOnce i s = .started t) : look i s = t.setLane i (t.lane i).looked := by
  have hpasses : lookPasses i (lookFuel (s.lane i)) s = t := by rw [lookFuel, lookPasses_succ, h]; rfl
  rw [look, hpasses]
  rfl

theorem exec_lookForWork (h : Looks s i) : exec (.lookForWork i) s = .next (arbitrate (look i s)) := if_pos h

/-- A pass ends with the tier at which the lane starts or settles something. -/
theorem lookOnce_of_probe_stops {r : Look} (h : lookProbe i s = r) (hr : ∀ examine, r.next examine = r) :
    lookOnce i s = r := by
  rw [lookOnce, h, hr, hr, hr]

theorem lookOnce_of_probe_passed (h : lookProbe i s = .passed s) :
    lookOnce i s = ((lookAlert i s).next (lookSchedule i)).next (lookJob i) := by
  rw [lookOnce, h]
  rfl

theorem lookOnce_of_alert_stops {r : Look} (hprobe : lookProbe i s = .passed s) (h : lookAlert i s = r)
    (hr : ∀ examine, r.next examine = r) : lookOnce i s = r := by
  rw [lookOnce_of_probe_passed hprobe, h, hr, hr]

theorem lookOnce_of_alert_passed (hprobe : lookProbe i s = .passed s) (halert : lookAlert i s = .passed s) :
    lookOnce i s = (lookSchedule i s).next (lookJob i) := by
  rw [lookOnce_of_probe_passed hprobe, halert]
  rfl

theorem lookOnce_of_schedule_stops {r : Look} (hprobe : lookProbe i s = .passed s) (halert : lookAlert i s = .passed s)
    (h : lookSchedule i s = r) (hr : ∀ examine, r.next examine = r) : lookOnce i s = r := by
  rw [lookOnce_of_alert_passed hprobe halert, h, hr]

theorem lookOnce_of_schedule_passed (hprobe : lookProbe i s = .passed s) (halert : lookAlert i s = .passed s)
    (hschedule : lookSchedule i s = .passed s) : lookOnce i s = lookJob i s := by
  rw [lookOnce_of_alert_passed hprobe halert, hschedule]
  rfl

/-- Settles O29: every tier is passed, so one pass ends with the state as it was. -/
theorem lookFindsNothingToStart : Obligations.LookFindsNothingToStart := by
  rintro s i _ rfl
  refine ⟨fun h => if_neg ?_, fun hidle hop howed hprobe halert hschedule hjob => ?_⟩
  · rintro ⟨hidle, hop, howed⟩
    simp_all
  · have honce : lookOnce i s = .passed s := by
      rw [lookOnce_of_schedule_passed (lookProbe_passed hprobe) (lookAlert_passed halert)
        (lookSchedule_passed hschedule),
        lookJob_passed hjob]
    rw [exec_lookForWork ⟨hidle, hop, howed⟩, look_of_passed honce]
    rfl

/-! ### Starting a transaction (R47) -/

/-- The start of a transaction on a lane that has looked for work. -/
theorem startTransaction_looked (x : Transaction) (s : State) :
    (startTransaction i x s).setLane i ((startTransaction i x s).lane i).looked =
      { s with
          pool := if reservationFor x.work x.op = .slotAndBlock then
              ⟨s.pool.free - 1, min s.pool.lowWater (s.pool.free - 1)⟩ else s.pool
          lanes := s.lanes.set i ((s.lane i).begin x).looked } := by
  have hlane : (startTransaction i x s).lane i = (s.lane i).begin x := by
    unfold startTransaction
    dsimp only
    split
    · exact State.setLane_lane_self ..
    · exact State.setLane_lane_self ..
  rw [hlane, startTransaction]
  split
  · simp [claimBlock, State.setLane]
  · simp [State.setLane]

/-- A look that starts the transaction `x`, its head having left its tier. -/
theorem exec_lookForWork_of_started {x : Transaction} {u : State} (h : Looks s i)
    (honce : lookOnce i s = .started (startTransaction i x u)) :
    exec (.lookForWork i) s = .next (arbitrate
      { u with
          pool := if reservationFor x.work x.op = .slotAndBlock then
              ⟨u.pool.free - 1, min u.pool.lowWater (u.pool.free - 1)⟩ else u.pool
          lanes := u.lanes.set i ((u.lane i).begin x).looked }) := by
  rw [exec_lookForWork h, look_of_started honce, startTransaction_looked]

/-- Settles O30: the PROBE tier is the first, and an alert read is examined when the PROBE tier is passed. -/
theorem lookStartsProbeOrAlertRead : Obligations.LookStartsProbeOrAlertRead := by
  constructor
  · rintro s i _ rfl hidle hop howed hopen t rest htier hcost
    have hprobe := lookProbe_head hopen htier
    rw [examineHead_starts hcost rfl] at hprobe
    rw [exec_lookForWork_of_started ⟨hidle, hop, howed⟩ (lookOnce_of_probe_stops hprobe fun _ => rfl)]
    simp only [State.setLane_lane_self, State.setLane_lanes, Table.set_set]
    rfl
  · rintro s i _ rfl hidle hop howed hprobe hopen a rest htier _ rfl _ rfl hactive hcost hslot hblock
    have halert := lookAlert_head hopen htier hactive
    rw [examineHead_starts hcost ((hasSpace_iff (work := .alert a) nofun _ _).2 ⟨hslot, fun _ => hblock⟩)] at halert
    rw [exec_lookForWork_of_started ⟨hidle, hop, howed⟩
      (lookOnce_of_alert_stops (lookProbe_passed hprobe) halert fun _ => rfl)]
    simp only [startLine, State.setLine_lane, State.setLine_lanes, State.setLane_lane_self, State.setLane_lanes,
      Table.set_set]
    rfl

/-- Settles O31: a poll is examined when the two tiers above are passed, a job when the three are. -/
theorem lookStartsPollOrJob : Obligations.LookStartsPollOrJob := by
  constructor
  · rintro s i _ rfl hidle hop howed hprobe halert hopen p rest htier _ rfl _ rfl hactive hcost hslot hblock
    have hschedule := lookSchedule_head hopen htier hactive
    rw [examineHead_starts hcost ((hasSpace_iff (work := .poll p) nofun _ _).2 ⟨hslot, fun _ => hblock⟩)] at hschedule
    rw [exec_lookForWork_of_started ⟨hidle, hop, howed⟩
      (lookOnce_of_schedule_stops (lookProbe_passed hprobe) (lookAlert_passed halert) hschedule fun _ => rfl)]
    simp only [State.setLane_lane_self, State.setLane_lanes, Table.set_set]
    rfl
  · rintro s i _ rfl hidle hop howed hprobe halert hschedule hopen j rest htier _ rfl hactive hcost hslot hblock
    have hjob := lookJob_head hopen htier hactive
    rw [examineHead_starts hcost ((hasSpace_iff (work := .job j) nofun _ _).2 ⟨hslot, hblock⟩)] at hjob
    rw [exec_lookForWork_of_started ⟨hidle, hop, howed⟩ ((lookOnce_of_schedule_passed (lookProbe_passed hprobe)
      (lookAlert_passed halert) (lookSchedule_passed hschedule)).trans hjob)]
    simp only [State.setLane_lane_self, State.setLane_lanes, Table.set_set]
    rcases j with ⟨_, _, _, _ | _ | _⟩ <;> rfl

end

end Sys2Proof.Machine

/-! PROOF. How a look goes on after a settlement (R44) and after a tier has closed (R45): the settlements that a look
can still make are enough fuel for its passes, so looking depends on what its first pass comes to; and the statements
about heads that close their tier and heads of QUARANTINED targets. -/

namespace Sys2Proof.Machine

/-! ### The settlements of a look (R44, R85) -/

section
variable {i : Fin 4} {s : State}

/-- What lane `i` can still settle: its jobs, its alert reads, and the reads that lines with Follow-up set put back
(R85). -/
def settlements (i : Fin 4) (s : State) : Nat :=
  (s.lane i).jobs.length + (s.lane i).alertTier.length + s.lines.toList.countP Line.followUp

theorem settlements_lt_lookFuel (i : Fin 4) (s : State) : settlements i s < lookFuel (s.lane i) := by
  have hlines : s.lines.toList.countP Line.followUp ≤ 8 := List.countP_le_length.trans_eq s.lines.length_eq
  unfold settlements lookFuel
  omega

theorem settlements_congr {u : State} (hjobs : (u.lane i).jobs = (s.lane i).jobs)
    (hreads : (u.lane i).alertTier = (s.lane i).alertTier) (hlines : u.lines = s.lines) :
    settlements i u = settlements i s := by
  rw [settlements, hjobs, hreads, hlines, settlements]

theorem settlements_setLane (i : Fin 4) (x : Lane) (s : State) :
    settlements i (s.setLane i x) = x.jobs.length + x.alertTier.length + s.lines.toList.countP Line.followUp := by
  rw [settlements, State.setLane_lane_self]
  rfl

/-- A line that is replaced counts for its Follow-up. -/
theorem followUps_set (a : Fin 8) (x : Line) (s : State) :
    (s.lines.set a x).toList.countP Line.followUp + (s.line a).followUp.toNat =
      s.lines.toList.countP Line.followUp + x.followUp.toNat := by
  have hlt : a.val < s.lines.toList.length := by rw [s.lines.length_eq]; exact a.isLt
  have hentry : s.lines.toList[a.val] = s.line a := rfl
  have hite (l : Line) : (if l.followUp = true then 1 else 0) = l.followUp.toNat := by cases l.followUp <;> rfl
  have hcounted : (s.line a).followUp.toNat ≤ s.lines.toList.countP Line.followUp := by
    cases h : (s.line a).followUp with
    | false => exact Nat.zero_le _
    | true => exact List.countP_pos_iff.2 ⟨s.line a, (s.lines.mem_toList _).2 ⟨a, rfl⟩, h⟩
  rw [Table.toList_set, List.countP_set hlt, hentry, hite, hite]
  omega

/-- The examination of a tier makes a settlement, which is one less to make, or leaves as many as there were. -/
def Look.Spends (i : Fin 4) (s : State) : Look → Prop
  | .started _ => True
  | .settled u => settlements i u < settlements i s
  | .passed u => settlements i u = settlements i s

theorem Look.spends_next {r : Look} {examine : State → Look} (hr : r.Spends i s)
    (hnext : ∀ u, (examine u).Spends i u) : (r.next examine).Spends i s := by
  cases r with
  | started u => trivial
  | settled u => exact hr
  | passed u =>
    have hu : settlements i u = settlements i s := hr
    have hexamine := hnext u
    rw [Look.next]
    cases hlook : examine u <;> simp_all [Look.Spends]

theorem spends_examineHead (i : Fin 4) (x : Transaction) (f : TierFlags → TierFlags) (start : State → State)
    (s : State) :
    (examineHead i x (closeTier i f) start s).Spends i s := by
  unfold examineHead
  split
  · exact settlements_congr (by rw [closeTier_lane]) (by rw [closeTier_lane]) rfl
  · split
    · trivial
    · exact Eq.refl (settlements i s)

theorem spends_lookProbe (i : Fin 4) (s : State) : (lookProbe i s).Spends i s := by
  cases hopen : (s.lane i).closed.probe with
  | true => rw [lookProbe_passed (.inl hopen)]; exact Eq.refl (settlements i s)
  | false =>
    cases htier : (s.lane i).probeTier with
    | nil => rw [lookProbe_passed (.inr htier)]; exact Eq.refl (settlements i s)
    | cons t rest => rw [lookProbe_head hopen htier]; exact spends_examineHead ..

/-- A read that is put back spends the Follow-up of its line (R82, R85). -/
theorem settlements_triggeredAt {a : Fin 8} {s : State} (h : (s.line a).followUp = true) :
    settlements i (triggeredAt a s) ≤ settlements i s := by
  have hlines : (triggeredAt a s).lines.toList.countP Line.followUp + 1 = s.lines.toList.countP Line.followUp := by
    have hset := followUps_set a { s.line a with state := .pending, extraEdges := 0, followUp := false
                                                 triggers := count16 (s.line a).triggers } s
    rw [h] at hset
    exact hset
  unfold settlements
  rw [triggeredAt_lane]
  split
  · rw [told_frame]
    simp only [List.length_append, List.length_singleton]
    omega
  · omega

theorem settlements_setLine {a : Fin 8} {x : Line} {s : State} (h : x.followUp = true → (s.line a).followUp = true) :
    settlements i (s.setLine a x) ≤ settlements i s := by
  have hset := followUps_set a x s
  have hle : x.followUp.toNat ≤ (s.line a).followUp.toNat := by
    cases hx : x.followUp <;> simp_all
  unfold settlements
  simp only [State.setLine_lane, State.setLine_lines]
  omega

theorem settlements_moveLine (i : Fin 4) (a : Fin 8) (s : State) : settlements i (moveLine a s) ≤ settlements i s := by
  unfold moveLine
  split
  · rename_i howes
    rw [trigger_eq]
    refine settlements_triggeredAt ?_
    simp only [Line.owesRead, Bool.and_eq_true] at howes
    exact howes.1.2
  · refine settlements_setLine fun h => ?_
    unfold Line.readEnded at h
    split at h
    · cases h
    · split at h
      · split at h <;> exact h
      · cases h

theorem spends_lookAlert (i : Fin 4) (s : State) : (lookAlert i s).Spends i s := by
  cases hopen : (s.lane i).closed.alert with
  | true => rw [lookAlert_shut (.inl hopen)]; exact Eq.refl (settlements i s)
  | false =>
    cases htier : (s.lane i).alertTier with
    | nil => rw [lookAlert_shut (.inr htier)]; exact Eq.refl (settlements i s)
    | cons a rest =>
      by_cases hq : (s.target (s.poll (s.line a).boundPoll).defn.target).state = .quarantined
      · rw [lookAlert_quarantined hopen htier hq]
        split
        · refine Nat.lt_of_le_of_lt (settlements_moveLine ..) ?_
          refine (settlements_setLane ..).trans_lt ?_
          rw [settlements, htier]
          simp
        · exact Eq.refl (settlements i s)
      · rw [lookAlert_head hopen htier hq]; exact spends_examineHead ..

/-- The head poll `p` of a work list is settled (R44, R33). -/
def skipPoll (i : Fin 4) (p : Fin 48) (rest : List (Fin 48)) (s : State) : State :=
  post (.laneLoad i ⟨0, 0, 1, 0⟩ 0) (countMiss (s.setLane i { s.lane i with workList := rest }) (p, .quarantined))

theorem skipPoll_lane (i : Fin 4) (p : Fin 48) (rest : List (Fin 48)) (s : State) :
    (skipPoll i p rest s).lane i = { s.lane i with workList := rest } :=
  (post_lane ..).trans (State.setLane_lane_self ..)

theorem skipQuarantined_of_quarantined {p : Fin 48} (rest : List (Fin 48))
    (hq : (s.target (s.poll p).defn.target).state = .quarantined) :
    skipQuarantined i (p :: rest) s = skipQuarantined i rest (skipPoll i p rest s) :=
  if_pos (by simpa [State.isQuarantined] using hq)

theorem settlements_skipQuarantined (i : Fin 4) (ps : List (Fin 48)) (s : State) :
    settlements i (skipQuarantined i ps s) = settlements i s := by
  induction ps generalizing s with
  | nil => rfl
  | cons p rest ih =>
    by_cases hq : (s.target (s.poll p).defn.target).state = .quarantined
    · have hlines : (skipPoll i p rest s).lines = s.lines := by rw [skipPoll, post_frame]; rfl
      rw [skipQuarantined_of_quarantined rest hq, ih]
      exact settlements_congr (by rw [skipPoll_lane]) (by rw [skipPoll_lane]) hlines
    · rw [skipQuarantined_of_active rest hq]

theorem spends_lookPoll (i : Fin 4) (s : State) : (lookPoll i s).Spends i s := by
  unfold lookPoll
  split
  · exact spends_examineHead i _ (fun c => { c with schedule := true }) _ s
  · exact Eq.refl (settlements i s)

theorem spends_lookSchedule (i : Fin 4) (s : State) : (lookSchedule i s).Spends i s := by
  unfold lookSchedule
  split
  · exact Eq.refl (settlements i s)
  · have hpoll := spends_lookPoll i (skipQuarantined i (s.lane i).workList s)
    have hskip := settlements_skipQuarantined i (s.lane i).workList s
    cases hlook : lookPoll i (skipQuarantined i (s.lane i).workList s) <;> simp_all [Look.Spends]

theorem settlements_endQueuedJob (i : Fin 4) (j : Job) (status : RecordStatus) (s : State) :
    settlements i (endQueuedJob j status s) = settlements i s := by
  have htold : (endQueuedJob j status s).lane i =
      { s.lane i with lookOwed := ((endQueuedJob j status s).lane i).lookOwed } := by
    rw [endQueuedJob_lane]
    split
    · exact told_frame ..
    · rfl
  exact settlements_congr (by rw [htold]) (by rw [htold]) (by rw [endQueuedJob_eq])

theorem spends_lookJob (i : Fin 4) (s : State) : (lookJob i s).Spends i s := by
  cases hopen : (s.lane i).closed.job with
  | true => rw [lookJob_shut (.inl hopen)]; exact Eq.refl (settlements i s)
  | false =>
    cases htier : (s.lane i).jobs with
    | nil => rw [lookJob_shut (.inr htier)]; exact Eq.refl (settlements i s)
    | cons j rest =>
      by_cases hq : (s.target j.target).state = .quarantined
      · rw [lookJob_quarantined hopen htier hq]
        split
        · refine (settlements_endQueuedJob ..).trans_lt ((settlements_setLane ..).trans_lt ?_)
          rw [settlements, htier]
          simp
        · exact Eq.refl (settlements i s)
      · rw [lookJob_head hopen htier hq]; exact spends_examineHead ..

theorem spends_lookOnce (i : Fin 4) (s : State) : (lookOnce i s).Spends i s :=
  Look.spends_next (Look.spends_next (Look.spends_next (spends_lookProbe i s) (spends_lookAlert i))
    (spends_lookSchedule i)) (spends_lookJob i)

/-- Passes that have fuel for every settlement come to the same (R44). -/
theorem lookPasses_of_settlements_lt {n m : Nat} (hn : settlements i s < n) (hm : settlements i s < m) :
    lookPasses i n s = lookPasses i m s := by
  induction n generalizing m s with
  | zero => omega
  | succ n ih =>
    obtain ⟨m, rfl⟩ : ∃ k, m = k + 1 := ⟨m - 1, by omega⟩
    have hspends := spends_lookOnce i s
    rw [lookPasses_succ, lookPasses_succ]
    cases hlook : lookOnce i s with rw [hlook] at hspends
    | started t | passed t => rfl
    | settled t =>
      have hless : settlements i t < settlements i s := hspends
      exact ih (by omega) (by omega)

/-- A look depends on the state through what its first pass comes to. -/
theorem look_congr {u : State} (h : lookOnce i s = lookOnce i u) : look i s = look i u := by
  have hs := settlements_lt_lookFuel i s
  have hu := settlements_lt_lookFuel i u
  have hpasses : lookPasses i (lookFuel (s.lane i)) s = lookPasses i (lookFuel (u.lane i)) u := by
    rw [lookPasses_of_settlements_lt hs (m := lookFuel (s.lane i) + lookFuel (u.lane i) + 1) (by omega),
      lookPasses_succ, h, ← lookPasses_succ]
    exact lookPasses_of_settlements_lt (by omega) hu
  rw [look, look, hpasses]

/-- After a settlement the lane goes on looking (R44). -/
theorem look_of_settled {t : State} (h : lookOnce i s = .settled t) : look i s = look i t := by
  have hs := settlements_lt_lookFuel i s
  have ht := settlements_lt_lookFuel i t
  have hpasses : lookPasses i (lookFuel (s.lane i)) s = lookPasses i (lookFuel (t.lane i)) t := by
    rw [lookPasses_of_settlements_lt hs (m := lookFuel (s.lane i) + lookFuel (t.lane i) + 1) (by omega),
      lookPasses_succ, h]
    exact lookPasses_of_settlements_lt (by omega) ht
  rw [look, look, hpasses]

theorem exec_lookForWork_congr {u : State} (hs : Looks s i) (hu : Looks u i) (h : lookOnce i s = lookOnce i u) :
    exec (.lookForWork i) s = exec (.lookForWork i) u := by
  rw [exec_lookForWork hs, exec_lookForWork hu, look_congr h]

theorem exec_lookForWork_of_settled {t : State} (hs : Looks s i) (ht : Looks t i) (h : lookOnce i s = .settled t) :
    exec (.lookForWork i) s = exec (.lookForWork i) t := by
  rw [exec_lookForWork hs, exec_lookForWork ht, look_of_settled h]

/-! ### Closing a tier (R45) -/

theorem closeTier_reservations (f : TierFlags → TierFlags) (s : State) :
    (closeTier i f s).reservations = s.reservations := by
  refine reservations_congr fun k => ?_
  rw [closeTier, State.setLane_lane]
  split
  · rename_i hk
    rw [hk]
  · rfl

/-- Looking is the same with the tier closed when the first pass is. -/
theorem exec_lookForWork_closeTier (f : TierFlags → TierFlags) (h : Looks s i)
    (honce : lookOnce i s = lookOnce i (closeTier i f s)) :
    exec (.lookForWork i) s = exec (.lookForWork i) (closeTier i f s) :=
  exec_lookForWork_congr h (by rw [Looks, closeTier_lane]; exact h) honce

/-- From `s` to `u` nothing differs of what the waiting of heads on lane `i` depends on (R44 to R46). -/
structure SameForHeads (i : Fin 4) (s u : State) : Prop where
  targets : u.targets = s.targets
  defn : ∀ p, (u.poll p).defn = (s.poll p).defn
  lines : u.lines = s.lines
  remaining : (u.lane i).remaining = (s.lane i).remaining
  records : u.records = s.records
  reservations : u.reservations = s.reservations
  pool : u.pool = s.pool

theorem sameForHeads_closeTier (i : Fin 4) (f : TierFlags → TierFlags) (s : State) :
    SameForHeads i s (closeTier i f s) where
  targets := rfl
  defn _ := rfl
  lines := rfl
  remaining := by rw [closeTier_lane]
  records := rfl
  reservations := closeTier_reservations f s
  pool := rfl

theorem HeadWaits.of_same {u : State} {t : Fin 32} {op : Operation} {n : Nat} (hsame : SameForHeads i s u)
    (h : HeadWaits s i t op n) : HeadWaits u i t op n := by
  unfold HeadWaits at h ⊢
  rwa [State.target, hsame.targets, hsame.remaining, hsame.records, hsame.reservations, hsame.pool]

theorem AlertTierPassed.of_same {u : State} (hsame : SameForHeads i s u)
    (hclosed : (u.lane i).closed.alert = (s.lane i).closed.alert)
    (htier : (u.lane i).alertTier = (s.lane i).alertTier) (h : AlertTierPassed s i) : AlertTierPassed u i := by
  rw [AlertTierPassed, hclosed, htier]
  refine h.imp id (.imp id ?_)
  rintro ⟨a, ha, hwaits⟩
  refine ⟨a, ha, ?_⟩
  rw [State.line, hsame.lines, hsame.defn]
  exact hwaits.of_same hsame

theorem ScheduleTierPassed.of_same {u : State} (hsame : SameForHeads i s u)
    (hclosed : (u.lane i).closed.schedule = (s.lane i).closed.schedule)
    (htier : (u.lane i).workList = (s.lane i).workList) (h : ScheduleTierPassed s i) : ScheduleTierPassed u i := by
  rw [ScheduleTierPassed, hclosed, htier]
  refine h.imp id (.imp id ?_)
  rintro ⟨p, hp, hactive, hwaits⟩
  refine ⟨p, hp, ?_⟩
  rw [State.target, hsame.targets, hsame.defn]
  exact ⟨hactive, hwaits.of_same hsame⟩

theorem AlertTierPassed.closeTier {f : TierFlags → TierFlags}
    (hf : (f (s.lane i).closed).alert = (s.lane i).closed.alert)
    (h : AlertTierPassed s i) : AlertTierPassed (closeTier i f s) i :=
  h.of_same (sameForHeads_closeTier i f s) (by rw [closeTier_lane]; exact hf) (by rw [closeTier_lane])

theorem ScheduleTierPassed.closeTier {f : TierFlags → TierFlags}
    (hf : (f (s.lane i).closed).schedule = (s.lane i).closed.schedule) (h : ScheduleTierPassed s i) :
    ScheduleTierPassed (closeTier i f s) i :=
  h.of_same (sameForHeads_closeTier i f s) (by rw [closeTier_lane]; exact hf) (by rw [closeTier_lane])

end

/-- Settles O32: with the tier closed the first pass goes past it as it does once the head has closed it. -/
theorem lookClosesTier : Obligations.LookClosesTier := by
  rintro s i _ rfl hidle hop howed _ rfl
  have looks : Looks s i := ⟨hidle, hop, howed⟩
  refine ⟨fun t rest htier hopen hcost => ?_, fun hprobe => ⟨?_, fun halert => ⟨?_, fun hschedule => ?_⟩⟩⟩
  · refine exec_lookForWork_closeTier (fun c => { c with probe := true }) looks ?_
    rw [lookOnce, lookOnce, lookProbe_head hopen htier, examineHead_closes hcost,
      lookProbe_passed (.inl (by rw [closeTier_lane]))]
  · rintro a rest htier hopen _ rfl hactive hcost
    refine exec_lookForWork_closeTier (fun c => { c with alert := true }) looks ?_
    rw [lookOnce_of_probe_passed (lookProbe_passed hprobe), lookAlert_head hopen htier hactive,
      examineHead_closes hcost,
      lookOnce_of_probe_passed (lookProbe_passed (by rw [closeTier_lane]; exact hprobe)),
      lookAlert_shut (.inl (by rw [closeTier_lane]))]
  · rintro p rest htier hopen _ rfl hactive hcost
    refine exec_lookForWork_closeTier (fun c => { c with schedule := true }) looks ?_
    rw [lookOnce_of_alert_passed (lookProbe_passed hprobe) (lookAlert_passed halert),
      lookSchedule_head hopen htier hactive, examineHead_closes hcost,
      lookOnce_of_alert_passed (lookProbe_passed (by rw [closeTier_lane]; exact hprobe))
        (lookAlert_passed (halert.closeTier rfl)),
      lookSchedule_shut (.inl (by rw [closeTier_lane]))]
  · intro j rest htier hopen hactive hcost
    refine exec_lookForWork_closeTier (fun c => { c with job := true }) looks ?_
    rw [lookOnce_of_schedule_passed (lookProbe_passed hprobe) (lookAlert_passed halert) (lookSchedule_passed hschedule),
      lookJob_head hopen htier hactive, examineHead_closes hcost,
      lookOnce_of_schedule_passed (lookProbe_passed (by rw [closeTier_lane]; exact hprobe))
        (lookAlert_passed (halert.closeTier rfl)) (lookSchedule_passed (hschedule.closeTier rfl)),
      lookJob_shut (.inl (by rw [closeTier_lane]))]

/-! ### Settling heads of QUARANTINED targets (R44) -/

section
variable {i : Fin 4} {s : State}

/-- The end of its read leaves the lane of a line looking for work (R82, R85). -/
theorem looks_moveLine (a : Fin 8) (h : Looks s i) : Looks (moveLine a s) i := by
  obtain ⟨hidle, hop, howed⟩ := h
  have hlane : (moveLine a s).lane i = { s.lane i with alertTier := ((moveLine a s).lane i).alertTier } := by
    unfold moveLine
    split
    · rw [trigger_eq, triggeredAt_lane]
      split
      · rw [told_of_owed (l := { s.lane i with alertTier := (s.lane i).alertTier ++ [a] }) howed]
      · rfl
    · rfl
  have hop' : (moveLine a s).op = s.op := by rw [moveLine_frame]
  rw [Looks, hlane, hop']
  exact ⟨hidle, hop, howed⟩

theorem looks_endQueuedJob (j : Job) (status : RecordStatus) (h : Looks s i) : Looks (endQueuedJob j status s) i := by
  obtain ⟨hidle, hop, howed⟩ := h
  have hop' : (endQueuedJob j status s).op = s.op := by rw [endQueuedJob_frame]
  rw [Looks, hop', endQueuedJob_lane, told_of_owed howed, ite_self]
  exact ⟨hidle, hop, howed⟩

theorem lookSchedule_quarantined {p : Fin 48} {rest : List (Fin 48)} (hopen : (s.lane i).closed.schedule = false)
    (htier : (s.lane i).workList = p :: rest) (hq : (s.target (s.poll p).defn.target).state = .quarantined) :
    lookSchedule i s = lookSchedule i (skipPoll i p rest s) := by
  rw [lookSchedule, lookSchedule, skipPoll_lane, htier, skipQuarantined_of_quarantined rest hq, hopen]
  rfl

theorem sameForHeads_skipPoll (i : Fin 4) (p : Fin 48) (rest : List (Fin 48)) (s : State) :
    SameForHeads i s (skipPoll i p rest s) := by
  have hframe : skipPoll i p rest s =
      { countMiss (s.setLane i { s.lane i with workList := rest }) (p, .quarantined) with
      notices := (skipPoll i p rest s).notices, lostNotices := (skipPoll i p rest s).lostNotices } := post_frame ..
  have hlane := skipPoll_lane i p rest s
  refine { targets := by rw [hframe]; rfl, lines := by rw [hframe]; rfl, remaining := by rw [hlane]
           records := by rw [hframe]; rfl, pool := by rw [hframe]; rfl
           defn := fun q => ?_, reservations := reservations_congr fun k => ?_ }
  · have hpoll : (skipPoll i p rest s).poll q = (countMiss s (p, .quarantined)).poll q := by rw [hframe]; rfl
    rw [hpoll, countMiss, State.setPoll_poll]
    split
    · rename_i hqp
      rw [hqp]
    · rfl
  · have hother : (skipPoll i p rest s).lane k = (s.setLane i { s.lane i with workList := rest }).lane k := post_lane ..
    rw [hother, State.setLane_lane]
    split
    · rename_i hk
      rw [hk]
    · rfl

end

/-- Settles O33: after the settlement of the head the lane goes on looking, from the top or with the rest of the
list. -/
theorem lookSettlesQuarantinedHeads : Obligations.LookSettlesQuarantinedHeads := by
  rintro s i _ rfl hidle hop howed hprobe _ rfl
  have looks : Looks s i := ⟨hidle, hop, howed⟩
  refine ⟨?_, fun halert => ⟨fun p rest htier hopen hq => ?_, fun hschedule j rest htier hopen hq hslot => ?_⟩⟩
  · rintro a rest htier hopen _ rfl hq hslot u hu
    have hsettled := lookAlert_quarantined hopen htier hq
    rw [if_pos ((slotFree_iff s).2 hslot)] at hsettled
    have hu' : Looks u i := by
      subst hu
      rw [Looks, State.lane, Table.get_set_self]
      exact looks
    have hmove : settleAlert a (s.setLane i { s.lane i with alertTier := rest }) = moveLine a u := hu ▸ rfl
    rw [exec_lookForWork_of_settled looks (hmove ▸ looks_moveLine a hu')
      (lookOnce_of_alert_stops (lookProbe_passed hprobe) hsettled fun _ => rfl), hmove,
      moveLine_running (by rw [hu]; exact hop)]
    subst hu
    rfl
  · have hlane := skipPoll_lane i p rest s
    have hop' : (skipPoll i p rest s).op = s.op := by rw [skipPoll, post_frame]; rfl
    refine exec_lookForWork_congr looks (u := skipPoll i p rest s) (by rw [Looks, hlane, hop']; exact looks) ?_
    rw [lookOnce_of_alert_passed (lookProbe_passed hprobe) (lookAlert_passed halert),
      lookOnce_of_alert_passed (lookProbe_passed (by rw [hlane]; exact hprobe))
        (lookAlert_passed (halert.of_same (sameForHeads_skipPoll i p rest s) (by rw [hlane]) (by rw [hlane]))),
      lookSchedule_quarantined hopen htier hq]
  · have hsettled := lookJob_quarantined hopen htier hq
    rw [if_pos ((slotFree_iff s).2 hslot)] at hsettled
    have hrest : Looks (s.setLane i { s.lane i with jobs := rest }) i := by
      rw [Looks, State.setLane_lane_self]
      exact looks
    rw [exec_lookForWork_of_settled looks (looks_endQueuedJob j .quarantined hrest) ((lookOnce_of_schedule_passed
      (lookProbe_passed hprobe) (lookAlert_passed halert) (lookSchedule_passed hschedule)).trans hsettled),
      endQueuedJob_eq]
    rcases j with ⟨_, _, _, _ | _ | _⟩ <;> rfl

end Sys2Proof.Machine

/-! PROOF. The end of a transaction (R55): its steps in their order, and what the report path makes of a scheduled
poll (R113 to R118), with the statement about it. -/

namespace Sys2Proof.Machine

/-! ### The steps of the end (R55) -/

/-- The state at the report of the transaction `x` (R55): the lane is free, the Target Table has acted. -/
def beforeReport (i : Fin 4) (x : Transaction) (f : Final) (s : State) : State :=
  targetOutcome x.target (x.work == .probe) f.status (s.setLane i ((s.lane i).endTxn f.status))

theorem endTransaction_eq {i : Fin 4} {s : State} {x : Transaction} (h : (s.lane i).txn = some x) (f : Final) :
    endTransaction i f s = wakeLane i (reportOutcome x (s.lane i).reservation f (beforeReport i x f s)) := by
  simp only [endTransaction, h]
  rfl

theorem beforeReport_frame (i : Fin 4) (x : Transaction) (f : Final) (s : State) :
    beforeReport i x f s =
      { s with targets := s.targets.set x.target ((s.target x.target).afterOutcome (x.work == .probe) f.status)
               notices := (beforeReport i x f s).notices
               lostNotices := (beforeReport i x f s).lostNotices
               lanes := (beforeReport i x f s).lanes } := by
  rw [beforeReport, targetOutcome_frame]
  rfl

/-! ### The report of a scheduled poll (R113 to R118) -/

theorem Poll.reports_eq (p : Poll) (f : Final) :
    p.reports f = (p.defn.mode == .every || !p.snapshot.valid || f.status != p.snapshot.lastStatus ||
      (f.status == .ok && ((p.defn.mode == .change && f.data != p.snapshot.lastData) ||
        (p.defn.mode == .delta && decide (p.defn.threshold ≤
          valueChange p.defn.order p.snapshot.lastData f.data))))) := by
  unfold Poll.reports dataReported
  cases p.defn.mode with
  | every | delta => rfl
  | change => simp [show (ReportMode.change == ReportMode.delta) = false from rfl]

theorem linkedRecord_none {s : State} {p : Fin 48} (h : (s.poll p).defn.keepLatest = false ∨ (s.poll p).link = none) :
    linkedRecord s p = none := by
  unfold linkedRecord
  split
  · simp_all
  · rfl

theorem linkedRecord_some {s : State} {p : Fin 48} {k : Nat} {r : Record} (hkeep : (s.poll p).defn.keepLatest = true)
    (hlink : (s.poll p).link = some k) (hr : s.records[k]? = some r) : linkedRecord s p = some (k, r) := by
  simp [linkedRecord, hkeep, hlink, hr]

/-- The block of an outcome without data is given back (R108, R110). -/
theorem givenBack (status : RecordStatus) :
    (if (status != .ok) = true then 1 else 0) = if status = .ok then 0 else 1 := by
  cases status <;> rfl

section
variable (p : Fin 48) (x : Transaction) (f : Final) (s : State)

theorem newPollRecord_polls :
    (newPollRecord p x f s).polls = s.polls.set p { s.poll p with
      counts := { (s.poll p).counts with records := count16 (s.poll p).counts.records }
      link := if (s.poll p).defn.keepLatest then some s.records.length else (s.poll p).link } := by
  rw [newPollRecord, releaseIf_frame]
  rfl

theorem newPollRecord_pool :
    (newPollRecord p x f s).pool = ⟨s.pool.free + (if f.status = .ok then 0 else 1), s.pool.lowWater⟩ := by
  rw [newPollRecord, releaseIf_frame, ← givenBack]
  rfl

variable (k : Nat) (r : Record)

theorem mergePollRecord_polls :
    (mergePollRecord p k r f s).polls = s.polls.set p { s.poll p with
      counts := { (s.poll p).counts with superseded := count16 (s.poll p).counts.superseded } } := by
  rw [mergePollRecord, releaseIf_frame, releaseIf_frame, wakeAll_frame]
  rfl

theorem mergePollRecord_pool :
    (mergePollRecord p k r f s).pool =
      ⟨s.pool.free + (if r.data.isSome then 1 else 0) + (if f.status = .ok then 0 else 1), s.pool.lowWater⟩ := by
  rw [mergePollRecord, releaseIf_frame, releaseIf_frame, wakeAll_frame, ← givenBack]
  rfl

/-- The state on which the report of a poll acts, its Completion counted and its snapshot written (R113, R115). -/
def snapshotWritten : State := s.setPoll p ((s.poll p).completed.written f)

theorem snapshotWritten_poll : (snapshotWritten p f s).poll p = (s.poll p).completed.written f :=
  State.setPoll_poll_self ..

theorem pollCompletion_dropped (h : (s.poll p).reports f = false) :
    pollCompletion p x f s = releaseBlock (s.setPoll p (s.poll p).completed) := by
  have hreports : ((s.setPoll p (s.poll p).completed).poll p).reports f = false := by
    rw [State.setPoll_poll_self]
    exact h
  rw [pollCompletion, hreports]
  rfl

theorem pollCompletion_of_reports (h : (s.poll p).reports f = true) :
    pollCompletion p x f s = reportPoll p x f (s.setPoll p (s.poll p).completed) := by
  have hreports : ((s.setPoll p (s.poll p).completed).poll p).reports f = true := by
    rw [State.setPoll_poll_self]
    exact h
  rw [pollCompletion, hreports]
  rfl

theorem written_completed :
    (s.setPoll p (s.poll p).completed).setPoll p (((s.setPoll p (s.poll p).completed).poll p).written f) =
      snapshotWritten p f s := by
  rw [State.setPoll_poll_self, State.setPoll_setPoll, snapshotWritten]

variable {p s}

theorem pollCompletion_new (h : (s.poll p).reports f = true) (hlinked : linkedRecord (snapshotWritten p f s) p = none) :
    pollCompletion p x f s = newPollRecord p x f (snapshotWritten p f s) := by
  rw [pollCompletion_of_reports p x f s h, reportPoll, written_completed, hlinked]

theorem pollCompletion_merged {k : Nat} {r : Record} (h : (s.poll p).reports f = true)
    (hlinked : linkedRecord (snapshotWritten p f s) p = some (k, r)) :
    pollCompletion p x f s = mergePollRecord p k r f (snapshotWritten p f s) := by
  rw [pollCompletion_of_reports p x f s h, reportPoll, written_completed, hlinked]

end

/-- What the end of a scheduled poll leaves of the state at its report, but for the lanes. -/
theorem endTransaction_poll {i : Fin 4} {s : State} {x : Transaction} (htxn : (s.lane i).txn = some x) {p : Fin 48}
    (hwork : x.work = .poll p) (f : Final) {v : State}
    (hv : v = if x.discarded = true ∨ f.status = .aborted then
        releaseReservation (s.lane i).reservation (beforeReport i x f s)
      else pollCompletion p x f (beforeReport i x f s)) :
    endTransaction i f s = { v with lanes := (endTransaction i f s).lanes } := by
  have hreport : reportOutcome x (s.lane i).reservation f (beforeReport i x f s) = v := by
    rw [hv, reportOutcome, hwork]
  rw [endTransaction_eq htxn, hreport, wakeLane_frame]

/-- Settles O36: the decision of R113, then the new record, the merge or the drop. -/
theorem pollOutcomeReported : Obligations.PollOutcomeReported := by
  rintro s i x htxn p hwork hheld f _ rfl _ rfl _ rfl reported hreported
  rw [← Poll.reports_eq] at hreported
  have hend := endTransaction_poll htxn hwork f rfl
  have hbefore := beforeReport_frame i x f s
  generalize beforeReport i x f s = v at hend hbefore
  have hpoll : v.poll p = s.poll p := by rw [hbefore]; rfl
  have hpolls : v.polls = s.polls := by rw [hbefore]
  have hrecords : v.records = s.records := by rw [hbefore]
  have hpool : v.pool = s.pool := by rw [hbefore]
  have hcycle : v.cycle = s.cycle := by rw [hbefore]
  have hlines : v.lines = s.lines := by rw [hbefore]
  refine ⟨?_, fun h => ?_, fun hkept hstatus => ⟨fun h => ?_, ?_⟩⟩
  · rw [hend]
    split
    · rw [releaseReservation_frame, hlines]
    · rw [pollCompletion_frame, hlines]
  · rw [hend, if_pos h, hheld, releaseReservation_frame, hpolls, hrecords, hpool]
    exact ⟨rfl, rfl, rfl⟩
  · rw [hend, if_neg (by simp [hkept, hstatus]), pollCompletion_dropped _ _ _ _ (by rw [hpoll, ← hreported, h]),
      releaseBlock_frame]
    refine ⟨?_, hrecords, ?_⟩
    · rw [State.setPoll_polls, hpoll, hpolls]
      rfl
    · rw [State.setPoll_pool, hpool]
  · rintro hreport _ rfl _ rfl
    rw [hend, if_neg (by simp [hkept, hstatus])]
    have hreports : (v.poll p).reports f = true := by rw [hpoll, ← hreported, hreport]
    refine ⟨fun hnone => ?_, fun k hlink hkeep g n t c st old hold => ?_⟩
    · have hlinked : linkedRecord (snapshotWritten p f v) p = none :=
        linkedRecord_none (by rw [snapshotWritten_poll, hpoll]; exact hnone)
      rw [pollCompletion_new x f hreports hlinked, newPollRecord_polls, newPollRecord_pool, newPollRecord_frame,
        snapshotWritten_poll, snapshotWritten]
      refine ⟨?_, ?_, ?_⟩
      · rw [State.setPoll_polls, State.setPoll_records, Table.set_set, hpolls, hrecords, hpoll]
        rfl
      · rw [State.setPoll_records, State.setPoll_cycle, hrecords, hcycle]
        rfl
      · rw [State.setPoll_pool, hpool]
    · have hlinked : linkedRecord (snapshotWritten p f v) p = some (k, ⟨.poll p g n, t, c, st, old⟩) :=
        linkedRecord_some (by rw [snapshotWritten_poll, hpoll]; exact hkeep)
          (by rw [snapshotWritten_poll, hpoll]; exact hlink)
          (hrecords ▸ hold)
      rw [pollCompletion_merged x f hreports hlinked, mergePollRecord_polls, mergePollRecord_pool,
        mergePollRecord_frame,
        snapshotWritten_poll, snapshotWritten]
      refine ⟨?_, ?_, ?_⟩
      · rw [State.setPoll_polls, Table.set_set, hpolls, hpoll]
        rfl
      · rw [State.setPoll_records, State.setPoll_cycle, hrecords, hcycle]
        rfl
      · rw [State.setPoll_pool, hpool]

end Sys2Proof.Machine

/-! PROOF. What the end of a transaction makes of every lane (R43, R57, R85, R109, R110): each step adds alert reads
to a lane or has it look for work, every lane is told exactly where a slot or a block is freed, and the statement
about the lanes. -/

namespace Sys2Proof.Machine

/-! ### Lanes that gain alert reads and a look for work (R43, R82) -/

/-- The lane with `reads` at the tail of its ALERT tier, looking for work if it is `woken` and IDLE (R43, R82). -/
def Lane.gains (l : Lane) (reads : List (Fin 8)) (woken : Bool) : Lane :=
  { l with alertTier := l.alertTier ++ reads, lookOwed := l.lookOwed || (woken && l.state == .idle) }

theorem Lane.gains_gains (l : Lane) (r r' : List (Fin 8)) (w w' : Bool) :
    (l.gains r w).gains r' w' = l.gains (r ++ r') (w || w') := by
  simp only [Lane.gains, List.append_assoc, Bool.or_assoc, Bool.and_or_distrib_right]

theorem Lane.gains_none (l : Lane) : l.gains [] false = l := by
  simp [Lane.gains]

theorem Lane.wake_eq_gains (l : Lane) : l.wake = l.gains [] true := by
  by_cases h : l.state = .idle
  · simp [Lane.wake, Lane.gains, h]
  · simp [Lane.wake, Lane.gains, h, beq_eq_false_iff_ne.2 h]

/-- A lane that is woken under a condition. -/
theorem Lane.wake_if (l : Lane) (c : Prop) [Decidable c] : (if c then l.wake else l) = l.gains [] (decide c) := by
  by_cases h : c <;> simp [h, Lane.wake_eq_gains, Lane.gains_none]

section
variable (k : Fin 4) (s : State)

theorem wakeLane_gains (i : Fin 4) :
    (wakeLane i s).lane k = (s.lane k).gains [] (decide (s.op = .running ∧ k = i)) := by
  rw [wakeLane_lane, Lane.wake_if]

theorem releaseIf_gains (b : Bool) : (releaseIf b s).lane k = (s.lane k).gains [] (b && decide (s.op = .running)) := by
  rw [releaseIf_lane, Lane.wake_if]
  simp

theorem wakeAll_gains : (wakeAll s).lane k = (s.lane k).gains [] (decide (s.op = .running)) := by
  rw [wakeAll_lane, Lane.wake_if]

/-- The read that the end of a line's read owes joins the ALERT tier of the line's lane (R85). -/
def readsOwed (a : Fin 8) : List (Fin 8) :=
  if k = lineLane s a ∧ (s.line a).owesRead s.op = true then [a] else []

theorem moveLine_gains (a : Fin 8) :
    (moveLine a s).lane k = (s.lane k).gains (readsOwed k s a) (!(readsOwed k s a).isEmpty) := by
  unfold moveLine readsOwed
  by_cases howes : (s.line a).owesRead s.op = true
  · obtain ⟨_, _, _, hop⟩ := (Line.owesRead_iff ..).1 howes
    rw [if_pos howes, trigger_eq, triggeredAt_lane, hop, told_running]
    by_cases hk : k = lineLane s a
    · rw [if_pos hk, if_pos ⟨hk, hop ▸ howes⟩, Lane.wake_eq_gains]
      simp [Lane.gains]
    · rw [if_neg hk, if_neg fun h => hk h.1]
      exact (Lane.gains_none _).symm
  · rw [if_neg howes, if_neg fun h => howes h.2]
    exact (Lane.gains_none _).symm

/-- A target that leaves QUARANTINED has its lane look for work (R43). -/
theorem targetOutcome_gains (t : Fin 32) (isProbe : Bool) (status : RecordStatus) :
    (targetOutcome t isProbe status s).lane k =
      (s.lane k).gains [] (decide (s.op = .running ∧ (s.target t).lane = k ∧ (s.target t).state = .quarantined ∧
        ((s.target t).afterOutcome isProbe status).state ≠ .quarantined)) := by
  have hop : (changeTarget t ((s.target t).afterOutcome isProbe status) s).op = s.op := by rw [changeTarget_frame]
  have hlane : (changeTarget t ((s.target t).afterOutcome isProbe status) s).lane k = s.lane k := by
    rw [changeTarget_frame]
    rfl
  unfold targetOutcome wakeIfRevived
  split
  · rename_i hrevived
    rw [wakeLane_gains, hop, hlane]
    congr 1
    simp [hrevived, eq_comm]
  · rename_i hrevived
    rw [hlane, decide_eq_false fun h => hrevived h.2.2]
    exact (Lane.gains_none _).symm

end

/-! ### What the report tells the lanes (R43, R110) -/

/-- From `s` to `u` a block is freed, or the record slot of a Reservation that is given up, `held` counting it (R109,
R110). -/
abbrev FreesSpace (s u : State) (held : Nat) : Prop :=
  s.pool.free < u.pool.free ∨ u.records.length < s.records.length + held

/-- From `s` to `u` each lane gains the given reads, and in RUNNING every lane is told exactly where space is freed. -/
structure TellsLanes (s u : State) (held : Nat) (reads : Fin 4 → List (Fin 8)) : Prop where
  op : u.op = s.op
  pool : s.pool.free ≤ u.pool.free
  lanes : ∃ freed : Bool, (freed = true ↔ FreesSpace s u held) ∧
    ∀ k, u.lane k = (s.lane k).gains (reads k) (!(reads k).isEmpty || (freed && decide (s.op = .running)))

/-- Nothing is freed: the slot of the Reservation becomes the slot of a record (R110). -/
theorem TellsLanes.of_kept {s u : State} {held : Nat} {reads : Fin 4 → List (Fin 8)} (hop : u.op = s.op)
    (hpool : u.pool = s.pool) (hrecords : s.records.length + held ≤ u.records.length)
    (hlanes : ∀ k, u.lane k = (s.lane k).gains (reads k) (!(reads k).isEmpty)) : TellsLanes s u held reads where
  op := hop
  pool := by rw [hpool]
  lanes := by
    refine ⟨false, ?_, fun k => by rw [hlanes, Bool.false_and, Bool.or_false]⟩
    rw [FreesSpace, hpool]
    simp only [Bool.false_eq_true, false_iff, not_or, Nat.not_lt]
    exact ⟨le_rfl, hrecords⟩

/-- A slot or a block is freed, and every lane is told (R43). -/
theorem TellsLanes.of_wakeAll {s u : State} {held : Nat} (hop : u.op = s.op) (hpool : s.pool.free ≤ u.pool.free)
    (hfreed : FreesSpace s u held) (hlanes : u.lanes = s.lanes) : TellsLanes s (wakeAll u) held fun _ => [] where
  op := by rw [wakeAll_frame]; exact hop
  pool := by rw [wakeAll_frame]; exact hpool
  lanes := by
    refine ⟨true, iff_of_true rfl ?_, fun k => ?_⟩
    · rw [wakeAll_frame]
      exact hfreed
    · rw [wakeAll_gains, hop, State.lane, hlanes]
      rfl

/-- A block that is freed besides (R108). -/
theorem TellsLanes.releaseIf {s u : State} {held : Nat} {reads : Fin 4 → List (Fin 8)} (h : TellsLanes s u held reads)
    (b : Bool) : TellsLanes s (releaseIf b u) held reads where
  op := by rw [releaseIf_frame]; exact h.op
  pool := by rw [releaseIf_frame]; exact h.pool.trans (Nat.le_add_right ..)
  lanes := by
    obtain ⟨hop, hpool, freed, hfreed, hlanes⟩ := h
    refine ⟨freed || b, ?_, fun k => ?_⟩
    · rw [releaseIf_frame, Bool.or_eq_true, hfreed]
      cases b with
      | false => simp
      | true => exact iff_of_true (.inr rfl) (.inl (Nat.lt_succ_of_le hpool))
    · rw [releaseIf_gains, hlanes, hop, Lane.gains_gains, List.append_nil, Bool.or_assoc, Bool.and_or_distrib_right]

theorem tellsLanes_releaseBlock {s u : State} {held : Nat} (hop : u.op = s.op) (hpool : u.pool = s.pool)
    (hlanes : u.lanes = s.lanes) : TellsLanes s (releaseBlock u) held fun _ => [] :=
  .of_wakeAll hop (by rw [← hpool]; exact Nat.le_succ _) (.inl (by rw [← hpool]; exact Nat.lt_succ_self _)) hlanes

theorem length_addRecord (r : Record) (s : State) : (addRecord r s).records.length = s.records.length + 1 := by
  simp

theorem tellsLanes_pollCompletion (p : Fin 48) (x : Transaction) (f : Final) (s : State) :
    TellsLanes s (pollCompletion p x f s) 1 fun _ => [] := by
  cases hreports : (s.poll p).reports f with
  | false =>
    rw [pollCompletion_dropped p x f s hreports]
    exact tellsLanes_releaseBlock rfl rfl rfl
  | true =>
    cases hlinked : linkedRecord (snapshotWritten p f s) p with
    | none =>
      rw [pollCompletion_new x f hreports hlinked]
      unfold newPollRecord
      refine .releaseIf ?_ _
      exact .of_kept rfl rfl (length_addRecord ..).ge fun k => (Lane.gains_none _).symm
    | some linked =>
      obtain ⟨place, r⟩ := linked
      rw [pollCompletion_merged x f hreports hlinked]
      unfold mergePollRecord
      dsimp only
      refine .releaseIf (.releaseIf ?_ _) _
      refine .of_wakeAll rfl le_rfl (.inr ?_) rfl
      exact Nat.lt_succ_of_le (List.length_set ..).le

theorem tellsLanes_endRunningJob (j : Job) (f : Final) (s : State) :
    TellsLanes s (endRunningJob j f s) 1 fun _ => [] := by
  unfold endRunningJob
  refine .releaseIf (.releaseIf ?_ _) _
  exact .of_kept rfl rfl (length_addRecord ..).ge fun k => (Lane.gains_none _).symm

/-- The lane of a line depends on the definitions of the polls and the lanes of the targets (R79, R19). -/
theorem lineLane_congr {s u : State} (hlines : u.lines = s.lines) (hdefn : ∀ p, (u.poll p).defn = (s.poll p).defn)
    (htargets : ∀ t, (u.target t).lane = (s.target t).lane) (a : Fin 8) : lineLane u a = lineLane s a := by
  rw [lineLane, pollLane, State.line, hlines, hdefn, htargets]
  rfl

theorem readsOwed_congr {s u : State} (hlines : u.lines = s.lines) (hop : u.op = s.op)
    (hdefn : ∀ p, (u.poll p).defn = (s.poll p).defn) (htargets : ∀ t, (u.target t).lane = (s.target t).lane) (k : Fin 4)
    (a : Fin 8) : readsOwed k u a = readsOwed k s a := by
  rw [readsOwed, lineLane_congr hlines hdefn htargets, hop, State.line, hlines]
  rfl

theorem alertSnapshot_defn (a : Fin 8) (x : Transaction) (f : Final) (s : State) (p : Fin 48) :
    ((alertSnapshot a x f s).poll p).defn = (s.poll p).defn := by
  unfold alertSnapshot
  split
  · rfl
  · rw [State.setPoll_poll]
    split
    · rename_i hp
      rw [hp]
      rfl
    · rfl

theorem tellsLanes_endAlertRead (a : Fin 8) (x : Transaction) (f : Final) (s : State) :
    TellsLanes s (endAlertRead a x f s) 1 fun k => readsOwed k s a := by
  let r := addRecord (alertRecord s a x.generation x.target f) s
  have hframe := alertSnapshot_frame a x f r
  have hreads (k : Fin 4) : readsOwed k (alertSnapshot a x f r) a = readsOwed k s a :=
    readsOwed_congr (by rw [hframe]) (by rw [hframe]) (alertSnapshot_defn a x f r) (by rw [hframe]; intro; rfl) k a
  refine .releaseIf (.of_kept ?_ ?_ ?_ fun k => ?_) _
  · rw [moveLine_frame, hframe]
    rfl
  · rw [moveLine_frame, hframe]
    rfl
  · rw [moveLine_frame, hframe]
    simp [r]
  · have hlane : (alertSnapshot a x f r).lane k = s.lane k := by rw [hframe]; rfl
    rw [moveLine_gains, hreads, hlane]

/-- The reads that the end of a transaction puts back (R85). -/
def readsPutBack (s : State) (work : Work) (k : Fin 4) : List (Fin 8) :=
  match work with
  | .alert a => readsOwed k s a
  | .poll _ | .job _ | .probe => []

theorem readsPutBack_of_not_running {s : State} (h : s.op ≠ .running) (work : Work) (k : Fin 4) :
    readsPutBack s work k = [] := by
  cases work with
  | alert a => exact if_neg fun howed => h ((Line.owesRead_iff ..).1 howed.2).2.2.2
  | poll | job | probe => rfl

/-- The record slots that a Reservation takes (R109). -/
def Reservation.slots (r : Reservation) : Nat := if r = .none then 0 else 1

/-- The report of a transaction that holds the Reservation of its kind (R109). -/
theorem tellsLanes_reportOutcome {x : Transaction} (hx : x.Sound) (f : Final) (s : State) :
    TellsLanes s (reportOutcome x (reservationFor x.work x.op) f s) (reservationFor x.work x.op).slots
      (readsPutBack s x.work) := by
  rw [Transaction.Sound] at hx
  rw [reportOutcome]
  cases hwork : x.work with rw [hwork] at hx
  | poll p =>
    have hread : x.op = .read := hx
    rw [hread]
    dsimp only
    split
    · exact tellsLanes_releaseBlock rfl rfl rfl
    · exact tellsLanes_pollCompletion p x f s
  | alert a =>
    have hread : x.op = .read := hx
    rw [hread]
    exact tellsLanes_endAlertRead a x f s
  | job j =>
    have hslots : (reservationFor (.job j) x.op).slots = 1 := by cases x.op <;> rfl
    rw [hslots]
    exact tellsLanes_endRunningJob j f s
  | probe => exact .of_kept rfl rfl le_rfl fun k => (Lane.gains_none _).symm

/-! ### The end of a transaction at the lanes (R55) -/

theorem Lane.endTxn_eq (l : Lane) (status : RecordStatus) :
    l.endTxn status =
      { l with state := if status.needsRecovery then .recovering else .idle
               txn := none
               reservation := .none
               fromFault := if status.needsRecovery then false else l.fromFault
               counts := if status.needsRecovery then { l.counts with recoveries := count16 l.counts.recoveries }
                 else l.counts } := by
  unfold Lane.endTxn
  cases status.needsRecovery <;> rfl

theorem Lane.endTxn_reservation (l : Lane) (status : RecordStatus) : (l.endTxn status).reservation = .none := by
  rw [Lane.endTxn_eq]

/-- A Reservation that is given up frees its slot (R109). -/
theorem reservations_setLane (i : Fin 4) (l : Lane) (s : State) :
    (s.setLane i l).reservations + (s.lane i).reservation.slots = s.reservations + l.reservation.slots := by
  have hlt : i.val < s.lanes.toList.length := by rw [s.lanes.length_eq]; exact i.isLt
  have hentry : s.lanes.toList[i.val] = s.lane i := rfl
  have hslots (k : Lane) : (if (k.reservation != .none) = true then 1 else 0) = k.reservation.slots := by
    cases k.reservation <;> rfl
  have hcounted : (s.lane i).reservation.slots ≤ s.lanes.toList.countP fun k => k.reservation != .none := by
    cases h : (s.lane i).reservation with
    | none => exact Nat.zero_le _
    | slot | slotAndBlock =>
      exact List.countP_pos_iff.2 ⟨s.lane i, (s.lanes.mem_toList _).2 ⟨i, rfl⟩, by rw [h]; rfl⟩
  rw [State.reservations, State.reservations, State.setLane_lanes, Table.toList_set, List.countP_set hlt, hentry,
    hslots,
    hslots]
  omega

/-- Health leaves a target on its lane (R96). -/
theorem Target.afterOutcome_lane (t : Target) (isProbe : Bool) (status : RecordStatus) :
    (t.afterOutcome isProbe status).lane = t.lane := by
  by_cases hfree : t.state = .free
  · rw [Target.afterOutcome]
    simp only [hfree]
  · rw [Target.afterOutcome_frame hfree]

theorem beforeReport_target_lane (i : Fin 4) (x : Transaction) (f : Final) (s : State) (t : Fin 32) :
    ((beforeReport i x f s).target t).lane = (s.target t).lane := by
  rw [beforeReport_frame, State.target, Table.get_set]
  split
  · rename_i ht
    rw [ht, Target.afterOutcome_lane]
  · rfl

theorem readsPutBack_beforeReport (i : Fin 4) (x : Transaction) (f : Final) (s : State) (work : Work) (k : Fin 4) :
    readsPutBack (beforeReport i x f s) work k = readsPutBack s work k := by
  have hframe := beforeReport_frame i x f s
  cases work with
  | alert a =>
    exact readsOwed_congr (by rw [hframe]) (by rw [hframe]) (by rw [hframe]; intro; rfl)
      (beforeReport_target_lane i x f s) k a
  | poll | job | probe => rfl

/-- A lane that gains reads and a look for work, the look as a condition. -/
theorem Lane.gains_eq {l : Lane} {reads : List (Fin 8)} {woken : Bool} {p : Prop} [Decidable p]
    (h : p ↔ woken = true ∧ l.state = .idle) :
    l.gains reads woken =
      { l with alertTier := l.alertTier ++ reads, lookOwed := if p then true else l.lookOwed } := by
  by_cases hp : p
  · obtain ⟨hwoken, hidle⟩ := h.1 hp
    simp [Lane.gains, hp, hwoken, hidle]
  · have hnot : (woken && l.state == .idle) = false :=
      Bool.eq_false_iff.2 fun hboth => hp (h.2 (by simpa using hboth))
    simp [Lane.gains, hp, hnot]

/-- The end of a transaction at lane `k` (R43, R55, R85, R110). -/
theorem endTransaction_lane {i : Fin 4} {s : State} {x : Transaction} (hs : SpaceInv s) (htxn : (s.lane i).txn = some x)
    (f : Final) :
    ∃ freed : Bool, (freed = true ↔ SpaceFreed s (endTransaction i f s)) ∧ ∀ k,
      (endTransaction i f s).lane k = ((s.setLane i ((s.lane i).endTxn f.status)).lane k).gains
        (readsPutBack s x.work k)
        (decide (s.op = .running ∧ (s.target x.target).lane = k ∧ (s.target x.target).state = .quarantined ∧
            ((endTransaction i f s).target x.target).state ≠ .quarantined) ||
          (!(readsPutBack s x.work k).isEmpty || (freed && decide (s.op = .running)) ||
            decide (s.op = .running ∧ k = i))) := by
  obtain ⟨hlanes, _⟩ := hs
  obtain ⟨_, hx, _⟩ := hlanes i
  rw [htxn] at hx
  obtain ⟨hsound, hheld⟩ := hx
  have hframe := beforeReport_frame i x f s
  have hop : (beforeReport i x f s).op = s.op := by rw [hframe]
  obtain ⟨hrop, _, freed, hfreed, htells⟩ := tellsLanes_reportOutcome hsound f (beforeReport i x f s)
  have hlane (k : Fin 4) := by
    have h := wakeLane_gains k (reportOutcome x (s.lane i).reservation f (beforeReport i x f s)) i
    rw [← endTransaction_eq htxn, hheld, htells, hrop, hop, readsPutBack_beforeReport, beforeReport,
      targetOutcome_gains,
      Lane.gains_gains, Lane.gains_gains, List.nil_append, List.append_nil] at h
    exact h
  refine ⟨freed, hfreed.trans ?_, fun k => ?_⟩
  · have hreservations : (endTransaction i f s).reservations + (s.lane i).reservation.slots = s.reservations := by
      have hfree := reservations_setLane i ((s.lane i).endTxn f.status) s
      rw [Lane.endTxn_reservation] at hfree
      rw [reservations_congr (s := s.setLane i ((s.lane i).endTxn f.status)) fun k =>
        by rw [hlane k]; rfl]
      exact hfree
    have hend : endTransaction i f s = { reportOutcome x (s.lane i).reservation f (beforeReport i x f s) with
        lanes := (endTransaction i f s).lanes } := by rw [endTransaction_eq htxn, wakeLane_frame]
    have hpool := congrArg State.pool hend
    have hrecords := congrArg State.records hend
    have hpool' : (beforeReport i x f s).pool = s.pool := by rw [hframe]
    have hrecords' : (beforeReport i x f s).records = s.records := by rw [hframe]
    dsimp only at hpool hrecords
    rw [FreesSpace, SpaceFreed, hpool, hrecords, hpool', hrecords', ← hheld]
    omega
  · rw [hlane, endTransaction_target_self htxn]
    rfl

/-- Settles O35: the lane's own end, and on every lane the reads and the look for work that the end brings. -/
theorem endFreesLane : Obligations.EndFreesLane := by
  rintro s i x hs htxn f recovers hrecovers _ rfl more hmore
  obtain ⟨freed, hfreed, hlane⟩ := endTransaction_lane hs htxn f
  have hneeds : f.status.needsRecovery = recovers := by
    rw [hrecovers]
    cases f.status <;> rfl
  have hreads (k : Fin 4) : readsPutBack s x.work k = more k := by
    rw [hmore]
    cases x.work with
    | alert a => exact if_congr (and_congr_right' (Line.owesRead_iff ..)) rfl rfl
    | poll | job | probe => rfl
  have hnone (hop : s.op ≠ .running) (k : Fin 4) : more k = [] := by
    rw [← hreads, readsPutBack_of_not_running hop]
  refine ⟨?_, fun k hk => ?_⟩
  · rw [hlane, State.setLane_lane_self, hreads, Lane.endTxn_eq, hneeds]
    refine Lane.gains_eq ?_
    by_cases hop : s.op = .running
    · cases recovers <;> simp [hop]
    · simp [hop, hnone hop]
  · rw [hlane, State.setLane_lane_ne _ _ _ _ hk, hreads]
    refine Lane.gains_eq ?_
    rw [← hfreed]
    by_cases hop : s.op = .running
    · simp only [hop, hk, ne_eq, true_and, and_false, Bool.decide_and, decide_not, decide_true, decide_false,
        Bool.and_true, Bool.or_false, Bool.or_eq_true, Bool.and_eq_true, decide_eq_true_eq, Bool.not_eq_eq_eq_not,
        Bool.not_true, decide_eq_false_iff_not, List.isEmpty_eq_false_iff]
      tauto
    · simp [hop, hnone hop]

end Sys2Proof.Machine

/-! PROOF. The numbers of the jobs that exist, and the number that the next job takes (R66). -/

namespace Sys2Proof.Machine

/-! ### Numbers of the jobs that exist (R66) -/

/-- Numbers of the jobs that are queued or running on a lane (R66). -/
def Lane.numbers (l : Lane) : List Nat :=
  (l.jobs.map fun j => j.number) ++ (l.runningJob.toList.map fun j => j.number)

theorem Lane.mem_numbers {l : Lane} {n : Nat} :
    n ∈ l.numbers ↔ (∃ j ∈ l.jobs, j.number = n) ∨ ∃ j ∈ l.runningJob, j.number = n := by
  simp [Lane.numbers]

theorem heldNumbers_eq (s : State) : heldNumbers s = (List.finRange 4).flatMap fun i => (s.lane i).numbers := by
  rw [heldNumbers, State.lanes_toList, List.flatMap_map]
  rfl

theorem mem_heldNumbers {s : State} {n : Nat} : n ∈ heldNumbers s ↔ ∃ i, n ∈ (s.lane i).numbers := by
  simp [heldNumbers_eq]

/-- No two jobs that exist share a number exactly when none do on one lane and none do on two lanes. -/
theorem nodup_heldNumbers {s : State} :
    (heldNumbers s).Nodup ↔ (∀ i, (s.lane i).numbers.Nodup) ∧
      ∀ i k, i ≠ k → ∀ n ∈ (s.lane i).numbers, n ∉ (s.lane k).numbers := by
  have hsymm : Std.Symm (Function.onFun List.Disjoint fun i => (s.lane i).numbers) := ⟨fun _ _ h => h.symm⟩
  rw [heldNumbers_eq, List.nodup_flatMap]
  refine and_congr (by simp) ⟨fun h i k hne n => ?_, fun h => ?_⟩
  · exact fun hi hk => h.forall (List.mem_finRange i) (List.mem_finRange k) hne hi hk
  · exact (List.nodup_finRange 4).pairwise_of_forall_ne fun i _ k _ hne n => h i k hne n

/-! ### The number that the next job takes (R66) -/

theorem nextNumber_eq {n : Nat} (hlo : 1 ≤ n) (hhi : n ≤ 65535) : nextNumber n = (n - 1 + 1) % 65535 + 1 := by
  unfold nextNumber
  split <;> omega

/-- The number `k` places after `n` (R66). -/
theorem iterate_nextNumber {n : Nat} (hlo : 1 ≤ n) (hhi : n ≤ 65535) (k : Nat) :
    nextNumber^[k] n = (n - 1 + k) % 65535 + 1 := by
  induction k with
  | zero => rw [Function.iterate_zero_apply]; omega
  | succ k ih =>
    rw [Function.iterate_succ_apply', ih, nextNumber_eq (by omega) (by omega)]
    omega

/-- The tries pass over held numbers and end at one that is not held, unless they run out. -/
theorem freshNumber_cases (held : List Nat) (tries n : Nat) :
    ∃ k ≤ tries, freshNumber held tries n = nextNumber^[k] n ∧ (∀ j < k, nextNumber^[j] n ∈ held) ∧
      (k < tries → nextNumber^[k] n ∉ held) := by
  induction tries generalizing n with
  | zero => exact ⟨0, le_rfl, rfl, by simp, by simp⟩
  | succ tries ih =>
    by_cases hheld : n ∈ held
    · obtain ⟨k, hk, heq, hpassed, hfree⟩ := ih (nextNumber n)
      refine ⟨k + 1, Nat.succ_le_succ hk, ?_, fun j hj => ?_, fun hlt => hfree (Nat.lt_of_succ_lt_succ hlt)⟩
      · rw [freshNumber, if_pos (by simpa using hheld), heq, Function.iterate_succ_apply]
      · cases j with
        | zero => exact hheld
        | succ j => exact hpassed j (Nat.lt_of_succ_lt_succ hj)
    · refine ⟨0, Nat.zero_le _, ?_, by simp, fun _ => hheld⟩
      rw [freshNumber, if_neg (by simpa using hheld)]
      rfl

/-- No more numbers are passed over than are held. -/
theorem passed_le_length {held : List Nat} {n k : Nat} (hlo : 1 ≤ n) (hhi : n ≤ 65535) (hk : k ≤ 65535)
    (hpassed : ∀ j < k, nextNumber^[j] n ∈ held) : k ≤ held.length := by
  have hinj : Set.InjOn (fun j => nextNumber^[j] n) (Finset.range k) := by
    intro a ha b hb hab
    simp only [Finset.coe_range, Set.mem_Iio] at ha hb
    simp only [iterate_nextNumber hlo hhi] at hab
    omega
  have hcard := Finset.card_le_card_of_injOn (t := held.toFinset) _ (fun j hj => by
    simpa using hpassed j (Finset.mem_range.1 hj)) hinj
  rw [Finset.card_range] at hcard
  exact hcard.trans held.toFinset_card_le

/-- The first number from `n` on that is not held, and how many places after `n` it stands (R66). -/
theorem freshNumber_spec {held : List Nat} {n : Nat} (hlo : 1 ≤ n) (hhi : n ≤ 65535) (hlen : held.length < 65535) :
    ∃ k < 65535, freshNumber held held.length n = nextNumber^[k] n ∧ (∀ j < k, nextNumber^[j] n ∈ held) ∧
      nextNumber^[k] n ∉ held := by
  obtain ⟨k, hk, heq, hpassed, hfree⟩ := freshNumber_cases held held.length n
  refine ⟨k, hk.trans_lt hlen, heq, hpassed, fun hheld => ?_⟩
  have hall : k + 1 ≤ held.length := by
    refine passed_le_length hlo hhi (by omega) fun j hj => ?_
    rcases Nat.lt_succ_iff_lt_or_eq.1 hj with hj | rfl
    · exact hpassed j hj
    · exact hheld
  exact hfree hall hheld

/-- The first number that is not held is the one fewest places after `n` (R66). -/
theorem freshNumber_eq_of_first {held : List Nat} {n number : Nat} (hlo : 1 ≤ n) (hhi : n ≤ 65535)
    (hlen : held.length < 65535) (h1 : 1 ≤ number) (h2 : number ≤ 65535) (hfree : number ∉ held)
    (hfirst : ∀ m, 1 ≤ m → m ≤ 65535 → m ∉ held → (number + 65535 - n) % 65535 ≤ (m + 65535 - n) % 65535) :
    freshNumber held held.length n = number := by
  obtain ⟨k, hk, heq, hpassed, hfresh⟩ := freshNumber_spec hlo hhi hlen
  have hle := hfirst _ (by rw [iterate_nextNumber hlo hhi]; omega) (by rw [iterate_nextNumber hlo hhi]; omega) hfresh
  have hplace : nextNumber^[(number + 65535 - n) % 65535] n = number := by
    rw [iterate_nextNumber hlo hhi]
    omega
  have hnot : ¬ (number + 65535 - n) % 65535 < k := fun hlt => hfree (hplace ▸ hpassed _ hlt)
  rw [heq]
  rw [iterate_nextNumber hlo hhi] at hle ⊢
  omega

end Sys2Proof.Machine

/-! PROOF. Jobs that only leave: what a happening that brings no job may do to a queue (R65), and the invariant of jobs
under such a happening. -/

namespace Sys2Proof.Machine

/-! ### Lanes whose jobs only leave (R65) -/

/-- The job without the mark that STOP sets on it (R76). -/
def Job.unmarked (j : Job) : Job := { j with cancelling := false }

/-- From `a` to `b` jobs only leave the queue, start, end or are marked. -/
structure Lane.KeepsJobs (a b : Lane) : Prop where
  jobs : (b.jobs.map Job.unmarked).Sublist (a.jobs.map Job.unmarked)
  numbers : b.numbers.Subperm a.numbers

theorem Lane.KeepsJobs.refl (a : Lane) : a.KeepsJobs a := ⟨.refl _, .refl _⟩

theorem Lane.KeepsJobs.trans {a b c : Lane} (hab : a.KeepsJobs b) (hbc : b.KeepsJobs c) : a.KeepsJobs c where
  jobs := hbc.jobs.trans hab.jobs
  numbers := hbc.numbers.trans hab.numbers

/-- Jobs leave the queue; the running job stays. -/
theorem Lane.KeepsJobs.of_sublist {a b : Lane} (hj : b.jobs.Sublist a.jobs) (hr : b.runningJob = a.runningJob) :
    a.KeepsJobs b where
  jobs := hj.map _
  numbers := by
    rw [Lane.numbers, Lane.numbers, hr]
    exact ((hj.map _).append (.refl _)).subperm

theorem Lane.KeepsJobs.of_same {a b : Lane} (hj : b.jobs = a.jobs) (ht : b.txn = a.txn) : a.KeepsJobs b :=
  .of_sublist (hj ▸ .refl _) (by rw [Lane.runningJob, ht, Lane.runningJob])

theorem Lane.SameButTiers.keepsJobs {a b : Lane} : a.SameButTiers b → a.KeepsJobs b := by
  rintro ⟨_, _, _, rfl⟩
  exact .of_same rfl rfl

/-- No job runs on the lane any more. -/
theorem Lane.KeepsJobs.of_idle {a b : Lane} (hj : b.jobs = a.jobs) (hr : b.runningJob = none) : a.KeepsJobs b where
  jobs := by rw [hj]
  numbers := by
    rw [Lane.numbers, Lane.numbers, hr, hj]
    exact (List.Sublist.append_left (List.nil_sublist _) _).subperm

/-- The head of the queue starts (R69). -/
theorem Lane.KeepsJobs.of_head {a b : Lane} {j : Job} (hj : a.jobs = j :: b.jobs) (hr : b.runningJob = some j) :
    a.KeepsJobs b where
  jobs := by
    rw [hj]
    exact (List.sublist_cons_self ..).map _
  numbers := by
    rw [Lane.numbers, Lane.numbers, hr, hj]
    exact (List.perm_append_singleton ..).subperm.trans (List.sublist_append_left _ _).subperm

theorem Lane.keepsJobs_endTxn (l : Lane) (status : RecordStatus) : l.KeepsJobs (l.endTxn status) := by
  rw [Lane.endTxn_eq]
  exact .of_idle rfl rfl

theorem Lane.keepsJobs_retry {l : Lane} {x : Transaction} (h : l.txn = some x) (t : Target) :
    l.KeepsJobs (l.retry x t) :=
  .of_sublist (.refl _) (by rw [Lane.runningJob, Lane.runningJob, h]; rfl)

theorem told_keepsJobs (op : OpState) (l : Lane) : l.KeepsJobs (told op l) := by
  rw [told_frame]
  exact .of_same rfl rfl

theorem unlisted_keepsJobs (op : OpState) (p : Fin 48) (l : Lane) : l.KeepsJobs (unlisted op p l) := by
  unfold unlisted
  split
  · refine .trans ?_ (told_keepsJobs op _)
    exact .of_same rfl rfl
  · exact .refl l

/-- A mark on a transaction is none on its job (R25). -/
theorem definitionEndMark_job (s : State) (p : Fin 48) (x : Transaction) : (definitionEndMark s p x).job = x.job := by
  unfold definitionEndMark
  split
  · split <;> rfl
  · split <;> rfl
  · rfl
  · rfl

theorem definitionEnded_keepsJobs (s : State) (p : Fin 48) (l : Lane) : l.KeepsJobs (definitionEnded s p l) := by
  refine .trans ?_ (unlisted_keepsJobs s.op p _)
  refine .of_sublist (.refl _) ?_
  cases h : l.txn with
  | none => simp [Lane.runningJob, h]
  | some x => simp [Lane.runningJob, h, definitionEndMark_job]

theorem Lane.keepsJobs_stopped (l : Lane) : l.KeepsJobs l.stopped where
  jobs := by
    rw [Lane.stopped, List.map_map]
    exact .refl _
  numbers := by
    have hnumbers : l.stopped.numbers = l.numbers := by
      simp [Lane.numbers, Lane.stopped, Lane.runningJob, Function.comp_def]
    rw [hnumbers]

/-! ### Happenings that bring no job (R65, R66) -/

/-- From `s` to `u` no job is submitted. -/
structure KeepsQueues (s u : State) : Prop where
  nextJob : u.nextJob = s.nextJob
  lanes : ∀ i, (s.lane i).KeepsJobs (u.lane i)

theorem KeepsQueues.refl (s : State) : KeepsQueues s s := ⟨rfl, fun _ => .refl _⟩

theorem KeepsQueues.trans {s t u : State} (hst : KeepsQueues s t) (htu : KeepsQueues t u) : KeepsQueues s u where
  nextJob := htu.nextJob.trans hst.nextJob
  lanes i := (hst.lanes i).trans (htu.lanes i)

theorem KeepsQueues.of_lanes {s u : State} (hn : u.nextJob = s.nextJob) (hl : u.lanes = s.lanes) :
    KeepsQueues s u where
  nextJob := hn
  lanes i := by rw [State.lane, State.lane, hl]; exact .refl _

theorem KeepsQueues.of_sameButTiers {s u : State} (hn : u.nextJob = s.nextJob)
    (hl : ∀ i, (s.lane i).SameButTiers (u.lane i)) : KeepsQueues s u where
  nextJob := hn
  lanes i := (hl i).keepsJobs

theorem keepsQueues_setLane {s : State} {i : Fin 4} {x : Lane} (h : (s.lane i).KeepsJobs x) :
    KeepsQueues s (s.setLane i x) := by
  refine ⟨rfl, fun k => ?_⟩
  rw [State.setLane_lane]
  split
  · rename_i hk
    exact hk ▸ h
  · exact .refl _

theorem keepsQueues_mapLanes {s : State} {f : Lane → Lane} (h : ∀ l : Lane, l.KeepsJobs (f l)) :
    KeepsQueues s { s with lanes := s.lanes.map f } := by
  refine ⟨rfl, fun k => ?_⟩
  rw [State.lane, State.lane, Table.get_map]
  exact h _

theorem KeepsQueues.foldl {α : Type} {f : State → α → State} (hf : ∀ s a, KeepsQueues s (f s a)) (as : List α)
    (s : State) : KeepsQueues s (as.foldl f s) :=
  foldl_keeps (P := KeepsQueues s) (fun u a h => h.trans (hf u a)) as s (.refl s)

/-! ### The invariant of jobs under such happenings -/

theorem Job.Sound.of_same {s u : State} (ht : ∀ t, (s.target t).SameBinding (u.target t)) {j : Job} {i : Fin 4}
    (h : j.Sound s i) : j.Sound u i := by
  obtain ⟨hlo, hhi, hbound, hlane, hrest⟩ := h
  exact ⟨hlo, hhi, fun hfree => hbound ((ht _).free.1 hfree), (ht _).lane.trans hlane, hrest⟩

theorem Job.sound_of_unmarked {j k : Job} (h : j.unmarked = k.unmarked) {s : State} {i : Fin 4} (hk : k.Sound s i) :
    j.Sound s i := by
  have hsound : k.unmarked.Sound s i := hk
  rw [← h] at hsound
  exact hsound

/-- Entries that stay bound, and queues that no job joins. -/
theorem JobInv.of_kept {s u : State} (h : JobInv s) (hq : KeepsQueues s u)
    (ht : ∀ t, (s.target t).SameBinding (u.target t)) : JobInv u := by
  obtain ⟨hqueues, hnodup, hnext⟩ := h
  obtain ⟨hlane, hlanes⟩ := nodup_heldNumbers.1 hnodup
  refine ⟨fun i => ⟨?_, fun j hj => ?_⟩, nodup_heldNumbers.2 ⟨fun i => ?_, fun i k hne n hi hk => ?_⟩, ?_⟩
  · have hlen := (hq.lanes i).jobs.length_le
    rw [List.length_map, List.length_map] at hlen
    exact hlen.trans (hqueues i).1
  · obtain ⟨k, hk, heq⟩ := List.mem_map.1 ((hq.lanes i).jobs.subset (List.mem_map_of_mem hj))
    exact .of_same ht (Job.sound_of_unmarked heq.symm ((hqueues i).2 k hk))
  · obtain ⟨kept, hperm, hsub⟩ := (hq.lanes i).numbers
    exact hperm.nodup_iff.1 ((hlane i).sublist hsub)
  · exact hlanes i k hne n ((hq.lanes i).numbers.subset hi) ((hq.lanes k).numbers.subset hk)
  · rw [hq.nextJob]
    exact hnext

theorem JobInv.of_steady {s u : State} (h : JobInv s) (hq : KeepsQueues s u) (hs : Steady s u) : JobInv u :=
  h.of_kept hq hs.targets

/-- The targets stay as they are. -/
theorem JobInv.of_targets {s u : State} (h : JobInv s) (hq : KeepsQueues s u) (ht : u.targets = s.targets) :
    JobInv u :=
  h.of_kept hq fun t => by rw [State.target, State.target, ht]; exact .refl _

end Sys2Proof.Machine

/-! PROOF. The shared operations, the end of transactions and cycle starts bring no job (R65). -/

namespace Sys2Proof.Machine

/-! ### Operations that bring no job: lanes, blocks, records and notices -/

theorem keepsQueues_wakeLane (i : Fin 4) (s : State) : KeepsQueues s (wakeLane i s) :=
  .of_sameButTiers (by rw [wakeLane_frame]) fun k => wakeLane_sameButTiers i k s

theorem releaseIf_sameButTiers (b : Bool) (s : State) (k : Fin 4) :
    (s.lane k).SameButTiers ((releaseIf b s).lane k) := by
  rw [releaseIf_lane]
  split
  · exact Lane.sameButTiers_wake _
  · exact .refl _

theorem keepsQueues_releaseIf (b : Bool) (s : State) : KeepsQueues s (releaseIf b s) :=
  .of_sameButTiers (by rw [releaseIf_frame]) (releaseIf_sameButTiers b s)

theorem releaseReservation_sameButTiers (r : Reservation) (s : State) (k : Fin 4) :
    (s.lane k).SameButTiers ((releaseReservation r s).lane k) := by
  rw [releaseReservation_lane]
  split
  · exact Lane.sameButTiers_wake _
  · exact .refl _

theorem keepsQueues_post (b : NoticeBody) (s : State) : KeepsQueues s (post b s) := by
  rw [post_frame]
  exact .of_lanes rfl rfl

theorem keepsQueues_makeReady (r : Reply) (s : State) : KeepsQueues s (makeReady r s) := .of_lanes rfl rfl

theorem keepsQueues_finishDrain (others : List Reply) (s : State) : KeepsQueues s (finishDrain others s) := by
  rw [finishDrain_frame]
  exact .of_lanes rfl rfl

theorem keepsQueues_endQueuedJob (j : Job) (status : RecordStatus) (s : State) :
    KeepsQueues s (endQueuedJob j status s) := by
  rw [endQueuedJob]
  refine .trans ?_ (keepsQueues_releaseIf ..)
  exact .of_lanes rfl rfl

theorem keepsQueues_arbitrate (s : State) : KeepsQueues s (arbitrate s) := by
  refine .of_sameButTiers (by rw [arbitrate_frame]) fun k => ?_
  rcases arbitrate_cases s with h | ⟨_, _, h⟩ | ⟨_, _, _, _, _, h⟩ | ⟨_, _, _, _, _, _, _, h⟩ |
    ⟨_, _, _, _, _, _, _, _, h⟩ <;> rw [h]
  · exact .refl _
  · exact .refl _
  · exact .refl _
  · exact .refl _
  · rw [takeRecord_lane]
    split
    · exact Lane.sameButTiers_wake _
    · exact .refl _

/-! ### Targets and alert lines -/

theorem keepsQueues_changeTarget (t : Fin 32) (x : Target) (s : State) : KeepsQueues s (changeTarget t x s) := by
  rw [changeTarget_frame]
  exact .of_lanes rfl rfl

theorem keepsQueues_targetOutcome (t : Fin 32) (isProbe : Bool) (status : RecordStatus) (s : State) :
    KeepsQueues s (targetOutcome t isProbe status s) := by
  refine .of_sameButTiers (by rw [targetOutcome_frame]) fun k => ?_
  rw [targetOutcome_gains]
  exact ⟨_, _, _, rfl⟩

theorem keepsQueues_removeProbe (t : Fin 32) (s : State) : KeepsQueues s (removeProbe t s) := by
  unfold removeProbe
  dsimp only
  split
  · refine .trans ?_ (keepsQueues_wakeLane ..)
    exact keepsQueues_setLane (.of_same rfl rfl)
  · exact .refl s

theorem keepsQueues_trigger (l : Fin 8) (s : State) : KeepsQueues s (trigger l s) :=
  .of_sameButTiers (by rw [trigger_frame]) (trigger_sameButTiers l s)

theorem keepsQueues_setLine (s : State) (l : Fin 8) (x : Line) : KeepsQueues s (s.setLine l x) := .of_lanes rfl rfl

theorem keepsQueues_moveLine (l : Fin 8) (s : State) : KeepsQueues s (moveLine l s) := by
  unfold moveLine
  split
  · exact keepsQueues_trigger ..
  · exact keepsQueues_setLine ..

/-! ### The end of transactions and recovery (R54 to R61) -/

theorem TellsLanes.sameButTiers {s u : State} {held : Nat} {reads : Fin 4 → List (Fin 8)}
    (h : TellsLanes s u held reads) (k : Fin 4) : (s.lane k).SameButTiers (u.lane k) := by
  obtain ⟨_, _, freed, _, hlanes⟩ := h
  rw [hlanes]
  exact ⟨_, _, _, rfl⟩

theorem keepsQueues_reportOutcome (x : Transaction) (held : Reservation) (f : Final) (s : State) :
    KeepsQueues s (reportOutcome x held f s) := by
  refine .of_sameButTiers (by rw [reportOutcome_frame]) fun k => ?_
  unfold reportOutcome
  split
  · split
    · exact releaseReservation_sameButTiers ..
    · exact (tellsLanes_pollCompletion ..).sameButTiers k
  · exact (tellsLanes_endAlertRead ..).sameButTiers k
  · exact (tellsLanes_endRunningJob ..).sameButTiers k
  · exact .refl _

theorem keepsQueues_endTransaction (i : Fin 4) (f : Final) (s : State) : KeepsQueues s (endTransaction i f s) := by
  unfold endTransaction
  split
  · exact .refl s
  · refine .trans ?_ (keepsQueues_wakeLane ..)
    refine .trans ?_ (keepsQueues_reportOutcome ..)
    refine .trans ?_ (keepsQueues_targetOutcome ..)
    exact keepsQueues_setLane (Lane.keepsJobs_endTxn ..)

theorem keepsQueues_recoveredIdle (i : Fin 4) (s : State) : KeepsQueues s (recoveredIdle i s) := by
  unfold recoveredIdle
  dsimp only
  refine .trans ?_ (keepsQueues_wakeLane ..)
  have hidle : KeepsQueues s
      (s.setLane i { s.lane i with state := .idle, waitingResets := [], fromFault := false }) :=
    keepsQueues_setLane (.of_same rfl rfl)
  split
  · exact hidle.trans (keepsQueues_post ..)
  · exact hidle

theorem keepsQueues_faultLane (i : Fin 4) (cause : FaultCause) (posted : LaneCause) (s : State) :
    KeepsQueues s (faultLane i cause posted s) := by
  refine .trans ?_ (keepsQueues_post ..)
  exact keepsQueues_setLane (.of_same rfl rfl)

theorem keepsQueues_abandonLane (i : Fin 4) (s : State) : KeepsQueues s (abandonLane i s) := by
  have hrecover (fromFault : Bool) : KeepsQueues s (s.setLane i ((s.lane i).recover fromFault)) :=
    keepsQueues_setLane (.of_same rfl rfl)
  unfold abandonLane
  split
  · exact .refl s
  · exact .refl s
  · exact hrecover false
  · exact keepsQueues_endTransaction ..
  · exact (hrecover true).trans (keepsQueues_post ..)

theorem keepsQueues_laneReset (tag : Byte) (i : Fin 4) (s : State) : KeepsQueues s (laneReset tag i s) :=
  (keepsQueues_abandonLane i s).trans (keepsQueues_setLane (.of_same rfl rfl))

/-! ### Cycle starts (R15) -/

theorem keepsQueues_startCycle (c : Word16) (s : State) : KeepsQueues s (startCycle c s) := by
  refine ⟨by rw [startCycle_frame], fun i => .trans ?_ (startCycle_sameButTiers c s i).keepsJobs⟩
  exact .of_same rfl rfl

/-- The entries after a cycle start are bound as before. -/
theorem startCycle_sameBinding (c : Word16) (s : State) (t : Fin 32) :
    (s.target t).SameBinding ((startCycle c s).target t) := by
  have hschedule : (scheduleCycle { s with cycle := c }).target t = s.target t := by
    rw [scheduleCycle_frame]
    rfl
  have hsteady : Steady (scheduleCycle { s with cycle := c }) (startCycle c s) := by
    refine .trans ?_ (steady_wakeAll _)
    refine .trans ?_ (steady_withChoice steady_countDowns _)
    refine .trans ?_ (steady_withChoice steady_leaveHoldoffs _)
    exact steady_withChoice (fun picks u => steady_postCycle picks _ u) _
  rw [← hschedule]
  exact hsteady.targets t

/-! ### Looking for work (R42 to R47) -/

theorem KeepsQueues.next {s : State} {r : Look} {examine : State → Look} (hr : KeepsQueues s r.state)
    (hnext : ∀ u, KeepsQueues u (examine u).state) : KeepsQueues s (r.next examine).state := by
  cases r with
  | started u | settled u => exact hr
  | passed u => exact KeepsQueues.trans hr (hnext u)

/-- A transaction starts on a lane that is otherwise `l`, its own job being no other than the head taken. -/
theorem keepsQueues_startTransaction {i : Fin 4} {x : Transaction} {s u : State} {l : Lane}
    (hn : u.nextJob = s.nextJob) (hu : u.lanes = s.lanes.set i l) (hl : (s.lane i).KeepsJobs (l.begin x)) :
    KeepsQueues s (startTransaction i x u) := by
  have hlane : u.lane i = l := by rw [State.lane, hu, Table.get_set_self]
  have hbegin : KeepsQueues s (u.setLane i ((u.lane i).begin x)) := by
    refine (keepsQueues_setLane hl).trans (.of_lanes hn ?_)
    rw [State.setLane_lanes, State.setLane_lanes, hlane, hu, Table.set_set]
  unfold startTransaction
  dsimp only
  split
  · exact hbegin.trans (.of_lanes rfl rfl)
  · exact hbegin

theorem keepsQueues_examineHead {i : Fin 4} {x : Transaction} {close start : State → State} {s : State}
    (hclose : KeepsQueues s (close s)) (hstart : KeepsQueues s (startTransaction i x (start s))) :
    KeepsQueues s (examineHead i x close start s).state := by
  unfold examineHead
  split
  · exact hclose
  · split
    · exact hstart
    · exact .refl s

end Sys2Proof.Machine

/-! PROOF. Looks for work, removals of jobs, alert lines and target health bring no job (R65). -/

namespace Sys2Proof.Machine

theorem keepsQueues_lookProbe (i : Fin 4) (s : State) : KeepsQueues s (lookProbe i s).state := by
  unfold lookProbe
  split
  · refine keepsQueues_examineHead (keepsQueues_setLane (.of_same rfl rfl)) ?_
    exact keepsQueues_startTransaction rfl rfl (.of_idle rfl rfl)
  · exact .refl s

theorem keepsQueues_settleAlert (l : Fin 8) (s : State) : KeepsQueues s (settleAlert l s) := by
  refine .trans ?_ (keepsQueues_moveLine ..)
  exact .of_lanes rfl rfl

theorem keepsQueues_lookAlert (i : Fin 4) (s : State) : KeepsQueues s (lookAlert i s).state := by
  unfold lookAlert
  split
  · dsimp only
    split
    · split
      · refine .trans ?_ (keepsQueues_settleAlert ..)
        exact keepsQueues_setLane (.of_same rfl rfl)
      · exact .refl s
    · refine keepsQueues_examineHead (keepsQueues_setLane (.of_same rfl rfl)) ?_
      exact keepsQueues_startTransaction rfl rfl (.of_idle rfl rfl)
  · exact .refl s

theorem keepsQueues_skipQuarantined (i : Fin 4) (ps : List (Fin 48)) (s : State) :
    KeepsQueues s (skipQuarantined i ps s) := by
  induction ps generalizing s with
  | nil => exact .refl s
  | cons p rest ih =>
    unfold skipQuarantined
    split
    · refine .trans ?_ (ih _)
      refine .trans ?_ (keepsQueues_post ..)
      have hskips : KeepsQueues s (s.setLane i { s.lane i with workList := rest }) :=
        keepsQueues_setLane (.of_same rfl rfl)
      exact hskips.trans (.of_lanes rfl rfl)
    · exact .refl s

theorem keepsQueues_lookPoll (i : Fin 4) (s : State) : KeepsQueues s (lookPoll i s).state := by
  unfold lookPoll
  split
  · refine keepsQueues_examineHead (keepsQueues_setLane (.of_same rfl rfl)) ?_
    exact keepsQueues_startTransaction rfl rfl (.of_idle rfl rfl)
  · exact .refl s

theorem keepsQueues_lookSchedule (i : Fin 4) (s : State) : KeepsQueues s (lookSchedule i s).state := by
  unfold lookSchedule
  split
  · exact .refl s
  · exact (keepsQueues_skipQuarantined ..).trans (keepsQueues_lookPoll ..)

/-- The head of a queue starts or is settled (R69). -/
theorem keepsQueues_lookJob (i : Fin 4) (s : State) : KeepsQueues s (lookJob i s).state := by
  unfold lookJob
  split
  · rename_i j rest _ hjobs
    split
    · split
      · refine .trans ?_ (keepsQueues_endQueuedJob ..)
        exact keepsQueues_setLane (.of_sublist (hjobs ▸ List.sublist_cons_self ..) rfl)
      · exact .refl s
    · refine keepsQueues_examineHead (keepsQueues_setLane (.of_same rfl rfl)) ?_
      exact keepsQueues_startTransaction rfl rfl (.of_head hjobs rfl)
  · exact .refl s

theorem keepsQueues_lookOnce (i : Fin 4) (s : State) : KeepsQueues s (lookOnce i s).state :=
  .next (.next (.next (keepsQueues_lookProbe i s) (keepsQueues_lookAlert i)) (keepsQueues_lookSchedule i))
    (keepsQueues_lookJob i)

theorem keepsQueues_lookPasses (i : Fin 4) (fuel : Nat) (s : State) : KeepsQueues s (lookPasses i fuel s) := by
  induction fuel generalizing s with
  | zero => exact .refl s
  | succ fuel ih =>
    have honce := keepsQueues_lookOnce i s
    unfold lookPasses
    split <;> rename_i t ht <;> rw [ht] at honce
    · exact honce
    · exact honce.trans (ih t)
    · exact honce

theorem keepsQueues_look (i : Fin 4) (s : State) : KeepsQueues s (look i s) :=
  (keepsQueues_lookPasses i _ s).trans (keepsQueues_setLane (.of_same rfl rfl))

/-! ### Jobs that leave a queue without a transaction (R73, R75, R77) -/

theorem keepsQueues_cancelJob (i : Fin 4) (number : Nat) (s : State) : KeepsQueues s (cancelJob i number s) := by
  unfold cancelJob
  split
  · refine .trans ?_ (keepsQueues_wakeLane ..)
    refine .trans ?_ (keepsQueues_endQueuedJob ..)
    exact keepsQueues_setLane (.of_sublist List.eraseP_sublist rfl)
  · exact .refl s

theorem keepsQueues_flushJobs (i : Fin 4) (s : State) : KeepsQueues s (flushJobs i s) := by
  unfold flushJobs
  refine .trans ?_ (.foldl (fun u j => keepsQueues_endQueuedJob j .cancelled u) ..)
  exact keepsQueues_setLane (.of_sublist (List.nil_sublist _) rfl)

theorem keepsQueues_flushLane (tag : Byte) (i : Fin 4) (s : State) : KeepsQueues s (flushLane tag i s) := by
  unfold flushLane
  dsimp only
  refine .trans ?_ (keepsQueues_finishDrain ..)
  split
  · exact keepsQueues_flushJobs ..
  · exact (keepsQueues_flushJobs ..).trans (keepsQueues_wakeLane ..)

theorem keepsQueues_drainHead {i : Fin 4} {j : Job} {rest : List Job} {s : State} (h : (s.lane i).jobs = j :: rest) :
    KeepsQueues s (drainHead i j rest s) := by
  refine .trans ?_ (keepsQueues_endQueuedJob ..)
  have hleaves : KeepsQueues s (s.setLane i { s.lane i with jobs := rest }) :=
    keepsQueues_setLane (.of_sublist (h ▸ List.sublist_cons_self ..) rfl)
  exact hleaves.trans (.of_lanes rfl rfl)

/-! ### Alert lines (R79 to R93) -/

theorem keepsQueues_takeLevel (l : Fin 8) (s : State) : KeepsQueues s (takeLevel l s) := by
  unfold takeLevel
  dsimp only
  refine (keepsQueues_setLine s l { s.line l with level := inputActive s l }).trans ?_
  split
  · unfold activeEdge
    split
    · exact keepsQueues_trigger ..
    · split
      · exact keepsQueues_setLine ..
      · exact .refl _
  · exact .refl _

theorem keepsQueues_enableLine (q : AlertRequest) (s : State) : KeepsQueues s (enableLine q s) := by
  unfold enableLine levelTrigger
  refine (keepsQueues_setLine s q.line ((s.line q.line).armedWith q (s.alertPins.get q.line))).trans ?_
  split
  · exact keepsQueues_trigger ..
  · exact .refl _

theorem keepsQueues_removeAlertRead (l : Fin 8) (s : State) : KeepsQueues s (removeAlertRead l s) := by
  refine .trans ?_ (keepsQueues_wakeLane ..)
  exact keepsQueues_setLane (.of_same rfl rfl)

theorem keepsQueues_disableLine (l : Fin 8) (s : State) : KeepsQueues s (disableLine l s) := by
  unfold disableLine
  dsimp only
  split
  · exact .refl s
  · exact keepsQueues_setLine ..
  · exact keepsQueues_setLine ..
  · exact (keepsQueues_setLine ..).trans (keepsQueues_removeAlertRead ..)
  · exact keepsQueues_setLine ..

theorem keepsQueues_withChoice {f : List Nat → State → State} (hf : ∀ picks u, KeepsQueues u (f picks u)) (s : State) :
    KeepsQueues s (withChoice f s) := by
  refine .trans ?_ (hf ..)
  rw [afterChoice_frame]
  exact .of_lanes rfl rfl

theorem keepsQueues_evaluateLines (picks : List Nat) (s : State) : KeepsQueues s (evaluateLines picks s) := by
  unfold evaluateLines
  refine .trans ?_ (.foldl (fun u l => keepsQueues_trigger l u) ..)
  exact .of_lanes rfl rfl

/-! ### Health and counters of targets (R101, R102, R149) -/

theorem keepsQueues_reviveTarget (t : Fin 32) (s : State) : KeepsQueues s (reviveTarget t s) := by
  unfold reviveTarget
  dsimp only
  split
  · exact .refl s
  · exact .refl s
  · exact keepsQueues_changeTarget ..
  · refine .trans ?_ (keepsQueues_wakeLane ..)
    exact (keepsQueues_removeProbe t s).trans (keepsQueues_changeTarget ..)

theorem keepsQueues_quarantineTarget (t : Fin 32) (s : State) : KeepsQueues s (quarantineTarget t s) := by
  unfold quarantineTarget
  dsimp only
  split
  · exact .refl s
  · exact keepsQueues_changeTarget ..
  · exact keepsQueues_changeTarget ..
  · refine .trans ?_ (keepsQueues_removeProbe ..)
    split
    · exact .refl s
    · exact .of_lanes rfl rfl

theorem keepsQueues_clearLanes (s : State) : KeepsQueues s (clearLanes s) :=
  keepsQueues_mapLanes fun _ => .of_same rfl rfl

theorem keepsQueues_clearClass (c : CounterClass) (s : State) : KeepsQueues s (clearClass c s) := by
  cases c with
  | all => exact .trans (keepsQueues_clearLanes s) (.of_lanes rfl rfl)
  | lane => exact keepsQueues_clearLanes s
  | target | poll | alert | result | host => exact .of_lanes rfl rfl

end Sys2Proof.Machine

/-! PROOF. SUBMIT: the fields of its BODY (R67), and the job that it numbers and queues (R66, R68). -/

namespace Sys2Proof.Machine

/-! ### The fields of SUBMIT (R67) -/

theorem jobKindField_eq_some {b : Byte} {kind : Operation} : jobKindField b = some kind ↔ b = kind.code := by
  unfold jobKindField
  cases kind <;> split_ifs <;> simp_all [Operation.code]

theorem jobCountField_eq_some {kind : Operation} {b : Byte} {n : Nat} :
    jobCountField kind b = some n ↔ (kind = .read → 1 ≤ b.toNat) ∧ (kind ≠ .probe → b.toNat ≤ 32) ∧
      n = if kind = .probe then 0 else b.toNat := by
  cases kind with
  | read => simp [jobCountField, rangeField_eq_some, and_assoc, eq_comm (a := n)]
  | write => simp [jobCountField, rangeField_eq_some, eq_comm (a := n)]
  | probe => simp [jobCountField, eq_comm (a := n)]

/-- What a SUBMIT request that passes the range checks holds (R67 check 3). -/
theorem decodeJob_eq_some {t kind r1 r0 n : Byte} {data : List Byte} {q : JobRequest} :
    decodeJob t kind r1 r0 n data = some q ↔ indexField 32 t = some q.target ∧ kind = q.kind.code ∧
      ((q.kind = .read → 1 ≤ n.toNat) ∧ (q.kind ≠ .probe → n.toNat ≤ 32) ∧
        q.byteCount = if q.kind = .probe then 0 else n.toNat) ∧
      q.register = (if q.kind = .probe then 0 else registerField r1 r0) ∧ q.data = data := by
  rcases q with ⟨target, kind', register, count, bytes⟩
  simp only [decodeJob, Option.bind_eq_bind, Option.bind_eq_some_iff, Option.pure_def, Option.some.injEq,
    JobRequest.mk.injEq, jobKindField_eq_some, jobCountField_eq_some]
  constructor
  · rintro ⟨_, ht, _, hk, _, hn, rfl, rfl, rfl, rfl, rfl⟩
    exact ⟨ht, hk, hn, rfl, rfl⟩
  · rintro ⟨ht, hk, hn, hr, rfl⟩
    exact ⟨_, ht, _, hk, _, hn, rfl, rfl, hr.symm, rfl, rfl⟩

/-- The length check of SUBMIT (R67 check 1). -/
theorem submitLengthOk_iff (kind count : Byte) (data : List Byte) :
    submitLengthOk kind count data = true ↔ data.length = if kind = 0x01 then count.toNat else 0 := by
  unfold submitLengthOk
  split <;> simp

theorem Operation.code_eq_write (kind : Operation) : kind.code = 0x01 ↔ kind = .write := by
  cases kind <;> decide

/-- The request is of a job that the rules permit on the lane of its target (R65, R67). -/
structure JobRequest.Sound (q : JobRequest) (s : State) : Prop where
  bound : (s.target q.target).state ≠ .free
  room : (s.lane (q.lane s)).jobs.length < 8
  count : q.byteCount ≤ 32
  data : q.data.length = if q.kind = .write then q.byteCount else 0

theorem checkJobRefs_ok {q r : JobRequest} {s : State} (h : checkJobRefs q s = .ok r) :
    r = q ∧ (s.target q.target).state ≠ .free ∧ (s.lane (q.lane s)).jobs.length < 8 := by
  unfold checkJobRefs at h
  dsimp only at h
  split_ifs at h with hfree _ _ _ _ hfull
  cases h
  exact ⟨rfl, hfree, Nat.lt_of_not_le hfull⟩

theorem checkSubmit_ok {body : List Byte} {s : State} {q : JobRequest} (h : checkSubmit body s = .ok q) :
    q.Sound s := by
  unfold checkSubmit at h
  split at h
  · split_ifs at h with hlength
    split at h
    · rename_i r hr
      obtain ⟨rfl, hbound, hroom⟩ := checkJobRefs_ok h
      obtain ⟨_, rfl, ⟨_, hmax, hcount⟩, _, rfl⟩ := decodeJob_eq_some.1 hr
      have hwrite := q.kind.code_eq_write
      rw [submitLengthOk_iff] at hlength
      refine ⟨hbound, hroom, ?_, ?_⟩
      · rw [hcount]
        split
        · exact Nat.zero_le _
        · exact hmax ‹_›
      · rw [hlength, hcount, if_congr hwrite rfl rfl]
        cases q.kind <;> rfl
    · cases h
  · cases h

/-! ### The job that SUBMIT queues (R66, R68) -/

theorem JobRequest.needsBlock_iff (q : JobRequest) : q.needsBlock = true ↔ q.kind = .write ∧ 1 ≤ q.byteCount := by
  simp [JobRequest.needsBlock]

theorem newJob_sound {q : JobRequest} {s : State} (hq : q.Sound s) (tag : Byte) {number : Nat} (hlo : 1 ≤ number)
    (hhi : number ≤ 65535) : (newJob tag number q).Sound s (q.lane s) := by
  have hneeds := q.needsBlock_iff
  have hdata := hq.data
  refine ⟨hlo, hhi, hq.bound, rfl, hq.count, ?_, ?_⟩
  · rw [newJob, ← hneeds]
    cases q.needsBlock <;> simp
  · rw [newJob]
    dsimp only
    cases hblock : q.needsBlock with
    | true => exact hdata
    | false =>
      rw [hblock] at hneeds
      simp only [Bool.false_eq_true, false_iff, not_and, Nat.not_le, Nat.lt_one_iff] at hneeds
      by_cases hwrite : q.kind = .write
      · rw [if_pos hwrite, hneeds hwrite]
        rfl
      · rw [if_neg hwrite]
        rfl

/-- At most 36 numbers are held. -/
theorem length_heldNumbers {s : State} (h : JobInv s) : (heldNumbers s).length < 65535 := by
  obtain ⟨hqueues, _⟩ := h
  have hlane (i : Fin 4) : (s.lane i).numbers.length ≤ 9 := by
    have hrunning : (s.lane i).runningJob.toList.length ≤ 1 := by cases (s.lane i).runningJob <;> simp
    have := (hqueues i).1
    rw [Lane.numbers, List.length_append, List.length_map, List.length_map]
    omega
  have hsum := List.sum_le_card_nsmul ((List.finRange 4).map fun i => (s.lane i).numbers.length) 9 (by simpa using hlane)
  rw [heldNumbers_eq, List.length_flatMap]
  simp only [List.length_map, List.length_finRange, smul_eq_mul] at hsum
  omega

/-- The number that the next job takes is a job number that no job holds (R66). -/
theorem jobNumber_fresh {s : State} (h : JobInv s) :
    1 ≤ s.jobNumber ∧ s.jobNumber ≤ 65535 ∧ s.jobNumber ∉ heldNumbers s := by
  have hlen := length_heldNumbers h
  obtain ⟨_, _, hlo, hhi⟩ := h
  obtain ⟨k, _, heq, _, hfree⟩ := freshNumber_spec hlo hhi hlen
  rw [State.jobNumber, heq]
  refine ⟨?_, ?_, hfree⟩ <;> rw [iterate_nextNumber hlo hhi]
  · exact Nat.le_add_left ..
  · omega

/-- The lane with a job at the tail of its queue (R68). -/
def Lane.enqueue (l : Lane) (j : Job) : Lane := { l with jobs := l.jobs ++ [j] }

/-- The part with a job at the tail of the queue of lane `i`. -/
def enqueued (i : Fin 4) (j : Job) (s : State) : State := s.setLane i ((s.lane i).enqueue j)

theorem numbers_enqueued (i k : Fin 4) (j : Job) (s : State) :
    ((enqueued i j s).lane k).numbers.Perm (if k = i then j.number :: (s.lane k).numbers else (s.lane k).numbers) := by
  rw [enqueued, State.setLane_lane]
  split
  · rename_i hk
    rw [Lane.numbers, Lane.numbers, hk, Lane.enqueue, List.map_append, List.map_singleton, List.append_assoc,
      List.singleton_append]
    exact List.perm_middle
  · exact .refl _

/-- A sound job with a number that no job holds joins a queue with room (R66, R68). -/
theorem jobInv_enqueued {i : Fin 4} {j : Job} {s : State} (hj : j.Sound s i) (hroom : (s.lane i).jobs.length < 8)
    (hfresh : j.number ∉ heldNumbers s) (h : JobInv s) : JobInv (enqueued i j s) := by
  obtain ⟨hqueues, hnodup, hnext⟩ := h
  obtain ⟨hlane, hlanes⟩ := nodup_heldNumbers.1 hnodup
  have hnew (k : Fin 4) : j.number ∉ (s.lane k).numbers := fun hk => hfresh (mem_heldNumbers.2 ⟨k, hk⟩)
  have hmem (k : Fin 4) (n : Nat) :
      n ∈ ((enqueued i j s).lane k).numbers ↔ (k = i ∧ n = j.number) ∨ n ∈ (s.lane k).numbers := by
    rw [(numbers_enqueued i k j s).mem_iff]
    split <;> simp [*]
  refine ⟨fun k => ?_, nodup_heldNumbers.2 ⟨fun k => ?_, fun a b hne n ha hb => ?_⟩, hnext⟩
  · rw [enqueued, State.setLane_lane]
    split
    · rename_i hk
      obtain rfl := hk
      refine ⟨by simpa [Lane.enqueue] using hroom, fun x hx => ?_⟩
      rcases List.mem_append.1 hx with hx | hx
      · exact (hqueues k).2 x hx
      · obtain rfl := List.mem_singleton.1 hx
        exact hj
    · exact hqueues k
  · rw [(numbers_enqueued i k j s).nodup_iff]
    split
    · exact List.nodup_cons.2 ⟨hnew k, hlane k⟩
    · exact hlane k
  · rcases (hmem a n).1 ha with ⟨rfl, rfl⟩ | ha'
    · rcases (hmem b j.number).1 hb with ⟨rfl, _⟩ | hb'
      · exact hne rfl
      · exact hnew b hb'
    · rcases (hmem b n).1 hb with ⟨rfl, rfl⟩ | hb'
      · exact hnew a ha'
      · exact hlanes a b hne n ha' hb'

/-- An accepted SUBMIT (R66, R68). -/
theorem submit_eq (tag : Byte) (q : JobRequest) (s : State) :
    submit tag q s = replied tag 0x93 (0x00 :: word s.jobNumber)
      { s with
          nextJob := nextNumber s.jobNumber
          pool := if q.needsBlock then ⟨s.pool.free - 1, min s.pool.lowWater (s.pool.free - 1)⟩ else s.pool
          lanes := s.lanes.set (q.lane s)
            (told s.op ((s.lane (q.lane s)).enqueue (newJob tag s.jobNumber q))) } := by
  unfold submit
  dsimp only
  rw [wakeLane_setLane, answer_eq_replied]
  cases q.needsBlock <;> rfl

theorem nextNumber_range {n : Nat} (h : n ≤ 65535) : 1 ≤ nextNumber n ∧ nextNumber n ≤ 65535 := by
  unfold nextNumber
  split <;> omega

theorem jobInv_submit {tag : Byte} {q : JobRequest} {s : State} (hq : q.Sound s) (h : JobInv s) :
    JobInv (submit tag q s) := by
  obtain ⟨hlo, hhi, hfresh⟩ := jobNumber_fresh h
  obtain ⟨hqueues, hnodup, _⟩ := jobInv_enqueued (newJob_sound hq tag hlo hhi) hq.room hfresh h
  let u : State := { enqueued (q.lane s) (newJob tag s.jobNumber q) s with nextJob := nextNumber s.jobNumber }
  have hcounted : JobInv u := ⟨hqueues, hnodup, nextNumber_range hhi⟩
  have hlane : u.lane (q.lane s) = (s.lane (q.lane s)).enqueue (newJob tag s.jobNumber q) := State.setLane_lane_self ..
  have htold : KeepsQueues u (u.setLane (q.lane s) (told s.op (u.lane (q.lane s)))) :=
    keepsQueues_setLane (told_keepsJobs ..)
  rw [submit_eq]
  refine (hcounted.of_targets htold rfl).of_targets (.of_lanes rfl ?_) rfl
  rw [hlane]
  exact (Table.set_set ..).symm

end Sys2Proof.Machine

/-! PROOF. The invariant of jobs (R65, R66) at every command and event, and its step lemma. -/

namespace Sys2Proof.Machine

/-! ### Replacing target entries: BIND_TARGET and UNBIND_TARGET (R3 to R6) -/

/-- An entry to which no queued job refers may change as it likes (R5). -/
theorem jobInv_setTarget {s : State} (h : JobInv s) {t : Fin 32} (x : Target)
    (hfree : ∀ i, ∀ j ∈ (s.lane i).jobs, j.target ≠ t) : JobInv (s.setTarget t x) := by
  obtain ⟨hqueues, hrest⟩ := h
  refine ⟨fun i => ⟨(hqueues i).1, fun j hj => ?_⟩, hrest⟩
  have hsound := (hqueues i).2 j hj
  rw [Job.Sound, State.setTarget_target_ne _ _ _ _ (hfree i j hj)]
  exact hsound

theorem jobInv_changeTarget {s : State} {t : Fin 32} {x : Target} (h : JobInv (s.setTarget t x)) :
    JobInv (changeTarget t x s) := by
  rw [changeTarget_frame]
  exact h.of_targets (.of_lanes rfl rfl) rfl

theorem jobInv_makeReady {s : State} (h : JobInv s) (r : Reply) : JobInv (makeReady r s) :=
  h.of_targets (keepsQueues_makeReady r s) rfl

/-! ### Admitted commands (R142) -/

theorem jobInv_carryOut {α : Type} {tag kind : Byte} {checked : Checked α} {effect : α → State → State} {s : State}
    (h : JobInv s) (heffect : ∀ a, checked = .ok a → JobInv (effect a s)) :
    JobInv (carryOut tag kind checked effect s) := by
  cases checked with
  | error status => exact jobInv_makeReady h _
  | ok a => exact heffect a rfl

theorem jobInv_carryOut_of_steady {α : Type} {tag kind : Byte} {checked : Checked α} {effect : α → State → State}
    {s : State} (h : JobInv s) (hqueues : ∀ a, KeepsQueues s (effect a s)) (hsteady : ∀ a, Steady s (effect a s)) :
    JobInv (carryOut tag kind checked effect s) :=
  jobInv_carryOut h fun a _ => h.of_steady (hqueues a) (hsteady a)

section
variable {s : State} (h : JobInv s) (tag : Byte) (body : List Byte)
include h

theorem jobInv_runBindTarget : JobInv (runBindTarget tag body s) := by
  refine jobInv_carryOut h fun a ha => jobInv_makeReady (jobInv_changeTarget (jobInv_setTarget h _ ?_)) _
  intro i j hj htarget
  obtain ⟨hqueues, _⟩ := h
  obtain ⟨_, _, hbound, _⟩ := (hqueues i).2 j hj
  obtain ⟨hfree, _⟩ := checkBindTarget_ok ha
  exact hbound (htarget ▸ hfree)

theorem jobInv_runUnbindTarget : JobInv (runUnbindTarget tag body s) := by
  refine jobInv_carryOut h fun t ht => jobInv_makeReady (jobInv_changeTarget ?_) _
  have hunused := checkUnbindTarget_ok ht
  have hfree : JobInv (s.setTarget t Target.free) := by
    refine jobInv_setTarget h _ fun i j hj htarget => ?_
    rw [(targetInUse_iff s t).2 (.inr (.inl ⟨i, j, hj, htarget⟩))] at hunused
    cases hunused
  have hprobe := keepsQueues_removeProbe t s
  refine hfree.of_targets ⟨hprobe.nextJob, hprobe.lanes⟩ ?_
  rw [removeProbe_frame]
  rfl

theorem jobInv_runStart : JobInv (runStart tag body s) := by
  refine jobInv_carryOut h fun _ _ => jobInv_makeReady ?_ _
  have hrunning : JobInv { s with op := .running, evaluationOwed := true } := h.of_targets (.of_lanes rfl rfl) rfl
  exact hrunning.of_kept (keepsQueues_startCycle ..) (startCycle_sameBinding _ _)

theorem jobInv_runStop : JobInv (runStop tag body s) := by
  refine jobInv_carryOut_of_steady h (fun _ => ?_) fun _ => steady_stop tag s
  refine .trans ?_ (keepsQueues_finishDrain ..)
  exact .trans (keepsQueues_mapLanes Lane.keepsJobs_stopped) (.of_lanes rfl rfl)

theorem jobInv_runSetCycle : JobInv (runSetCycle tag body s) := by
  refine jobInv_carryOut h fun n _ => jobInv_makeReady ?_ _
  have hlanes : KeepsQueues s { s with lanes := s.lanes.map fun l => l.withInterval n } :=
    keepsQueues_mapLanes fun _ => .of_same rfl rfl
  exact h.of_targets ⟨hlanes.nextJob, hlanes.lanes⟩ rfl

theorem jobInv_runDefinePoll : JobInv (runDefinePoll tag body s) := by
  refine jobInv_carryOut h fun q _ => ?_
  have hlanes := keepsQueues_mapLanes (s := s) (definitionEnded_keepsJobs s q.poll)
  rw [definePoll_eq]
  exact h.of_targets ⟨hlanes.nextJob, hlanes.lanes⟩ rfl

theorem jobInv_runDeletePoll : JobInv (runDeletePoll tag body s) := by
  refine jobInv_carryOut h fun p _ => ?_
  let u := s.setPoll p (Poll.free (s.poll p).generation)
  have hlanes := keepsQueues_mapLanes (s := u) (definitionEnded_keepsJobs u p)
  rw [deletePoll, unlistPoll_markDefinitionEnd]
  exact h.of_targets ⟨hlanes.nextJob, hlanes.lanes⟩ rfl

theorem jobInv_runSetPollState : JobInv (runSetPollState tag body s) := by
  refine jobInv_carryOut h fun a _ => ?_
  split
  · exact h.of_targets (.of_lanes rfl rfl) rfl
  · have hlanes := keepsQueues_mapLanes (s := s) (unlisted_keepsJobs s.op a.1)
    rw [pausePoll, unlistPoll_eq]
    exact h.of_targets ⟨hlanes.nextJob, hlanes.lanes⟩ rfl

theorem jobInv_runSetLane : JobInv (runSetLane tag body s) := by
  refine jobInv_carryOut h fun q _ => jobInv_makeReady ?_ _
  have hset : KeepsQueues s (s.setLane q.lane ((s.lane q.lane).withSettings s.interval q)) :=
    keepsQueues_setLane (.of_same rfl rfl)
  split
  · refine h.of_targets (hset.trans (keepsQueues_post ..)) ?_
    rw [post_frame]
    rfl
  · exact h.of_targets hset rfl

theorem jobInv_runReadLane : JobInv (runReadLane tag body s) :=
  jobInv_carryOut_of_steady h (fun _ => keepsQueues_withChoice (fun _ _ => keepsQueues_makeReady ..) s)
    fun _ => steady_withChoice (fun _ _ => steady_answer ..) s

theorem jobInv_runSetTargetState : JobInv (runSetTargetState tag body s) := by
  refine jobInv_carryOut h fun a _ => jobInv_makeReady ?_ _
  split
  · exact h.of_steady (keepsQueues_quarantineTarget ..) (steady_quarantineTarget ..)
  · exact h.of_steady (keepsQueues_reviveTarget ..) (steady_reviveTarget ..)

theorem jobInv_runSubmit : JobInv (runSubmit tag body s) :=
  jobInv_carryOut h fun _ hq => jobInv_submit (checkSubmit_ok hq) h

theorem jobInv_runCancel : JobInv (runCancel tag body s) :=
  jobInv_carryOut_of_steady h (fun _ => (keepsQueues_cancelJob ..).trans (keepsQueues_finishDrain ..))
    fun _ => (steady_cancelJob ..).trans (steady_finishDrain ..)

theorem jobInv_runSetAlert : JobInv (runSetAlert tag body s) := by
  refine jobInv_carryOut h fun a _ => ?_
  cases a with
  | inl q => exact jobInv_makeReady (h.of_steady (keepsQueues_enableLine q s) (steady_enableLine q s)) _
  | inr l => exact jobInv_makeReady (h.of_steady (keepsQueues_disableLine l s) (steady_disableLine l s)) _

theorem jobInv_runClearCounters : JobInv (runClearCounters tag body s) :=
  jobInv_carryOut h fun c _ => jobInv_makeReady (h.of_steady (keepsQueues_clearClass c s) (steady_clearClass c s)) _

/-- Every command keeps the jobs in order (12.2). -/
theorem jobInv_commandOf {kind : Byte} {run : Byte → List Byte → State → State} (hkind : commandOf kind = some run) :
    JobInv (run tag body s) := by
  unfold commandOf at hkind
  split at hkind <;> cases hkind
  · exact jobInv_carryOut h fun _ _ => jobInv_makeReady h _
  · exact jobInv_carryOut h fun _ _ => jobInv_makeReady h _
  · exact jobInv_runClearCounters h tag body
  · exact jobInv_carryOut h fun _ _ => h.of_targets (.of_lanes rfl rfl) rfl
  · exact jobInv_runStart h tag body
  · exact jobInv_runStop h tag body
  · exact jobInv_runSetCycle h tag body
  · exact jobInv_runDefinePoll h tag body
  · exact jobInv_runDeletePoll h tag body
  · exact jobInv_runSetPollState h tag body
  · exact jobInv_carryOut h fun _ _ => jobInv_makeReady h _
  · exact jobInv_runSetLane h tag body
  · exact jobInv_runReadLane h tag body
  · exact jobInv_carryOut_of_steady h (fun i => keepsQueues_laneReset tag i s) fun i => steady_laneReset tag i s
  · exact jobInv_runBindTarget h tag body
  · exact jobInv_runUnbindTarget h tag body
  · exact jobInv_carryOut h fun _ _ => jobInv_makeReady h _
  · exact jobInv_runSetTargetState h tag body
  · exact jobInv_runSubmit h tag body
  · exact jobInv_runCancel h tag body
  · exact jobInv_carryOut_of_steady h (fun i => keepsQueues_flushLane tag i s) fun i => steady_flushLane tag i s
  · exact jobInv_runSetAlert h tag body
  · exact jobInv_carryOut h fun _ _ => jobInv_makeReady h _
  · exact jobInv_carryOut h fun _ _ => h.of_targets (.of_lanes rfl rfl) rfl

theorem jobInv_runFrame (kind : Byte) : JobInv (runFrame kind tag body s) := by
  unfold runFrame
  split
  · rename_i run hkind
    exact jobInv_commandOf h tag body hkind
  · exact jobInv_makeReady h _

end

/-! ### Admission, the receiver and resets (R130 to R134, R152) -/

theorem keepsQueues_hostError (count : HostErrors → HostErrors) (one : HostErrors) (s : State) :
    KeepsQueues s (hostError count one s) := by
  rw [hostError_frame]
  exact .of_lanes rfl rfl

theorem jobInv_hostError {s : State} (h : JobInv s) (count : HostErrors → HostErrors) (one : HostErrors) :
    JobInv (hostError count one s) :=
  h.of_steady (keepsQueues_hostError ..) (steady_hostError ..)

theorem jobInv_setReceiver {s : State} (h : JobInv s) (r : Receiver) : JobInv { s with receiver := r } :=
  h.of_targets (.of_lanes rfl rfl) rfl

theorem jobInv_admission {effect : State → State} (heffect : ∀ u, JobInv u → JobInv (effect u)) {s : State}
    (h : JobInv s) (kind tag : Byte) : JobInv (admission kind tag effect s) := by
  rcases admission_cases kind tag effect s with ⟨_, _, _, hadm⟩ | ⟨status, _, href⟩
  · rw [hadm]
    exact heffect _ (h.of_targets (.of_lanes rfl rfl) rfl)
  · rw [href, refuse]
    split
    · exact jobInv_makeReady h _
    · exact jobInv_hostError h _ _

theorem jobInv_judge {s : State} (h : JobInv s) (frame : List Byte) : JobInv (judge frame s) := by
  have hhunt : JobInv (toHunt s) := jobInv_setReceiver h _
  unfold judge
  dsimp only
  split
  · split
    · exact jobInv_admission (fun u hu => jobInv_runFrame hu _ _ _) hhunt _ _
    · exact hhunt
  · exact jobInv_hostError hhunt _ _

theorem jobInv_takeByte {s : State} (h : JobInv s) (b : Byte) : JobInv (takeByte b s) := by
  unfold takeByte
  split
  · split
    · exact jobInv_setReceiver h _
    · exact h
  · split
    · exact jobInv_setReceiver h _
    · exact jobInv_hostError (jobInv_setReceiver h _) _ _
  · split
    · exact jobInv_setReceiver h _
    · exact jobInv_setReceiver h _
  · split
    · exact jobInv_judge h _
    · exact jobInv_setReceiver h _

/-- Right after a reset there are no jobs (R152). -/
theorem jobInv_of_reset {u : State} (hlanes : u.lanes = State.reset.lanes) (hnext : u.nextJob = 1) : JobInv u := by
  have hlane (i : Fin 4) : u.lane i = Lane.afterReset := by rw [State.lane, hlanes]; exact Table.get_replicate ..
  refine ⟨fun i => ?_, nodup_heldNumbers.2 ⟨fun i => ?_, fun i k _ n hi => ?_⟩, by simp [hnext]⟩
  · rw [hlane]
    exact ⟨Nat.zero_le _, fun j hj => absurd hj List.not_mem_nil⟩
  · rw [hlane]
    exact List.nodup_nil
  · rw [hlane] at hi
    exact absurd hi List.not_mem_nil

theorem jobInv_frameSent {s : State} (h : JobInv s) (content : FrameContent) : JobInv (frameSent content s) := by
  unfold frameSent
  split
  · exact jobInv_setReceiver h _
  · exact jobInv_of_reset rfl rfl
  all_goals exact h

/-! ### One happening -/

/-- Whatever state a happening answers, its jobs are in order. -/
def AnswersJobs (o : Host.Outcome State Fault Refusal) : Prop := ∀ t, o = .next t → JobInv t

theorem AnswersJobs.next {u : State} (h : JobInv u) : AnswersJobs (.next u) := by
  rintro t ⟨⟩
  exact h

theorem AnswersJobs.finish {u : State} (h : JobInv u) : AnswersJobs (finish u) :=
  .next (h.of_steady (keepsQueues_arbitrate u) (steady_arbitrate u))

theorem AnswersJobs.ite {c : Prop} [Decidable c] {a b : Host.Outcome State Fault Refusal} (ha : AnswersJobs a)
    (hb : AnswersJobs b) : AnswersJobs (if c then a else b) := by
  split
  · exact ha
  · exact hb

section
variable {s : State} (h : JobInv s)
include h

theorem answersJobs_hostCommand {effect : State → State} (heffect : ∀ u, JobInv u → JobInv (effect u))
    (kind tag : Byte) : AnswersJobs (hostCommand kind tag effect s) :=
  .ite (.finish (jobInv_admission heffect (jobInv_setReceiver h _) kind tag)) (.next h)

/-- A frame of a command that the decoder knows (12.2). -/
theorem answersJobs_command {kind : Byte} {run : Byte → List Byte → State → State} (hkind : commandOf kind = some run)
    (tag : Byte) (body : List Byte) : AnswersJobs (hostCommand kind tag (run tag body) s) :=
  answersJobs_hostCommand h (fun _ hu => jobInv_commandOf hu tag body hkind) kind tag

theorem answersJobs_onTransaction {i : Fin 4} {k : Transaction → Host.Outcome State Fault Refusal}
    (hk : ∀ x, (s.lane i).txn = some x → AnswersJobs (k x)) : AnswersJobs (onTransaction i s k) := by
  unfold onTransaction
  split
  · rename_i hx
    exact hk _ hx
  · exact .next h

theorem answersJobs_endStep (i : Fin 4) (f : Final) : AnswersJobs (endStep i f s) :=
  .finish (h.of_steady ((keepsQueues_endTransaction ..).trans (keepsQueues_finishDrain ..))
    ((steady_endTransaction ..).trans (steady_finishDrain ..)))

/-- The end of an attempt that the lane counts (R52, R53). -/
theorem answersJobs_countedEnd (i : Fin 4) (counts : LaneCounts) (f : Final) :
    AnswersJobs (endStep i f (s.setLane i { s.lane i with counts := counts })) := by
  have hcounted : KeepsQueues s (s.setLane i { s.lane i with counts := counts }) :=
    keepsQueues_setLane (.of_same rfl rfl)
  exact answersJobs_endStep (h.of_targets hcounted rfl) i f

theorem answersJobs_recoveryStep {i : Fin 4} {state : LaneState} {ended : State} (hqueues : KeepsQueues s ended)
    (hsteady : Steady s ended) : AnswersJobs (recoveryStep i state ended s) :=
  .finish (h.of_steady (hqueues.trans (keepsQueues_finishDrain ..)) (hsteady.trans (steady_finishDrain ..)))

theorem answersJobs_execAttemptAddrNack (i : Fin 4) : AnswersJobs (execAttemptAddrNack i s) :=
  answersJobs_onTransaction h fun _ hx =>
    .ite (.finish (h.of_targets (keepsQueues_setLane (Lane.keepsJobs_retry hx _)) rfl)) (answersJobs_endStep h _ _)

theorem answersJobs_execTransactionEnd (i : Fin 4) (result : BusResult) :
    AnswersJobs (execTransactionEnd i result s) := by
  refine answersJobs_onTransaction h fun x _ => ?_
  split
  · exact answersJobs_endStep h _ _
  · exact .next h

theorem answersJobs_execRecoveryEnd (i : Fin 4) (result : RecoveryResult) :
    AnswersJobs (execRecoveryEnd i result s) := by
  refine .ite ?_ (.next h)
  cases result with
  | busFree => exact answersJobs_recoveryStep h (keepsQueues_recoveredIdle ..) (steady_recoveredIdle ..)
  | sdaHeld => exact answersJobs_recoveryStep h (keepsQueues_faultLane ..) (steady_faultLane ..)

theorem answersJobs_execDrainRemoval (i : Fin 4) : AnswersJobs (execDrainRemoval i s) := by
  unfold execDrainRemoval
  split
  · rename_i hjobs
    exact .ite (.finish (h.of_steady ((keepsQueues_drainHead hjobs).trans (keepsQueues_finishDrain ..))
      ((steady_drainHead ..).trans (steady_finishDrain ..)))) (.next h)
  · exact .next h

theorem answersJobs_execAlertInputChange (l : Fin 8) (high : Bool) : AnswersJobs (execAlertInputChange l high s) := by
  have hpins : JobInv { s with alertPins := s.alertPins.set l high } := h.of_targets (.of_lanes rfl rfl) rfl
  exact .ite (.finish (hpins.of_steady (keepsQueues_takeLevel ..) (steady_takeLevel ..))) (.next hpins)

theorem answersJobs_execTransmitEnd : AnswersJobs (execTransmitEnd s) := by
  have hfree : JobInv { s with transmitter := none } := h.of_targets (.of_lanes rfl rfl) rfl
  unfold execTransmitEnd
  split
  · exact .finish (jobInv_frameSent hfree _)
  · exact .next h

/-- Every command and event keeps the jobs in order. -/
theorem exec_answersJobs (c : Instr) : AnswersJobs (exec c s) := by
  cases c with
  | ping => exact answersJobs_command h (kind := 0x01) rfl _ _
  | getStatus => exact answersJobs_command h (kind := 0x02) rfl _ _
  | clearCounters => exact answersJobs_command h (kind := 0x03) rfl _ _
  | reset => exact answersJobs_command h (kind := 0x04) rfl _ _
  | start => exact answersJobs_command h (kind := 0x05) rfl _ _
  | stop => exact answersJobs_command h (kind := 0x06) rfl _ _
  | setCycle => exact answersJobs_command h (kind := 0x07) rfl _ _
  | definePoll => exact answersJobs_command h (kind := 0x08) rfl _ _
  | deletePoll => exact answersJobs_command h (kind := 0x09) rfl _ _
  | setPollStatePause | setPollStateResume => exact answersJobs_command h (kind := 0x0A) rfl _ _
  | readPoll => exact answersJobs_command h (kind := 0x0B) rfl _ _
  | setLane => exact answersJobs_command h (kind := 0x0C) rfl _ _
  | readLane => exact answersJobs_command h (kind := 0x0D) rfl _ _
  | laneReset => exact answersJobs_command h (kind := 0x0E) rfl _ _
  | bindTarget => exact answersJobs_command h (kind := 0x0F) rfl _ _
  | unbindTarget => exact answersJobs_command h (kind := 0x10) rfl _ _
  | readTarget => exact answersJobs_command h (kind := 0x11) rfl _ _
  | setTargetStateRevive | setTargetStateQuarantine => exact answersJobs_command h (kind := 0x12) rfl _ _
  | submit => exact answersJobs_command h (kind := 0x13) rfl _ _
  | cancel => exact answersJobs_command h (kind := 0x14) rfl _ _
  | flushLane => exact answersJobs_command h (kind := 0x15) rfl _ _
  | setAlertEnable | setAlertDisable => exact answersJobs_command h (kind := 0x16) rfl _ _
  | readAlert => exact answersJobs_command h (kind := 0x17) rfl _ _
  | grant => exact answersJobs_command h (kind := 0x18) rfl _ _
  | powerOn | resetInput | supplyBelowOperatingLevel => exact .next (jobInv_of_reset rfl rfl)
  | resetRelease => exact .ite (.next (jobInv_of_reset rfl rfl)) (.next h)
  | initEnd => exact .ite (.finish (h.of_targets (.of_lanes rfl rfl) rfl)) (.next h)
  | receiveByte => exact .ite (.finish (jobInv_takeByte h _)) (.next h)
  | gapTimeout => exact .ite (.finish (jobInv_hostError (jobInv_setReceiver h _) _ _)) (.next h)
  | transmitEnd => exact answersJobs_execTransmitEnd h
  | cycleStart => exact .ite (.finish (h.of_kept (keepsQueues_startCycle ..) (startCycle_sameBinding _ _))) (.next h)
  | lookForWork => exact .ite (.finish (h.of_steady (keepsQueues_look ..) (steady_look ..))) (.next h)
  | attemptAddrNack => exact answersJobs_execAttemptAddrNack h _
  | stretchTimeout => exact answersJobs_onTransaction h fun _ _ => answersJobs_countedEnd h _ _ _
  | busStuck => exact answersJobs_onTransaction h fun _ _ => answersJobs_endStep h _ _
  | arbLost => exact answersJobs_onTransaction h fun _ _ => answersJobs_countedEnd h _ _ _
  | transactionEnd => exact answersJobs_execTransactionEnd h _ _
  | recoveryEnd => exact answersJobs_execRecoveryEnd h _ _
  | recoverySclTimeout =>
    exact .ite (answersJobs_recoveryStep h (keepsQueues_faultLane ..) (steady_faultLane ..)) (.next h)
  | drainRemoval => exact answersJobs_execDrainRemoval h _
  | alertInputChange => exact answersJobs_execAlertInputChange h _ _
  | alertFilterExpiry => exact .ite (.finish (h.of_steady (keepsQueues_takeLevel ..) (steady_takeLevel ..))) (.next h)
  | alertEvaluation =>
    exact .ite (.finish (h.of_steady (keepsQueues_withChoice keepsQueues_evaluateLines s)
      (steady_withChoice steady_evaluateLines s))) (.next h)

end

/-- Settles O57, by the cases of the happening at the front of the queue. -/
theorem stepKeepsJobs : Obligations.StepKeepsJobs := by
  intro s t h hstep
  unfold step at hstep
  cases hq : s.pending with
  | nil =>
    rw [hq] at hstep
    exact AnswersJobs.next h t hstep
  | cons c rest =>
    rw [hq] at hstep
    have hrest : JobInv { s with pending := rest } := h.of_targets (.of_lanes rfl rfl) rfl
    exact exec_answersJobs hrest c t hstep

end Sys2Proof.Machine

/-! PROOF. The statement about SUBMIT: its checks in order, and the job it numbers and queues (R66 to R68). -/

namespace Sys2Proof.Machine

/-! ### SUBMIT (R66 to R68) -/

theorem exec_submit {s : State} {tag : Byte} (h : Admits s tag) (body : List Byte) :
    exec (.submit tag body) s = .next (arbitrate (runSubmit tag body (admitted tag s))) := hostCommand_admitted h

/-- The request in the BODY of a SUBMIT in range; Register and Byte Count of a PROBE are stored as 0 (R67). -/
def jobRequest (t : Fin 32) (kind : Operation) (register : Word16) (count : Nat) (data : List Byte) : JobRequest :=
  ⟨t, kind, if kind = .probe then 0 else register, count, data⟩

theorem checkSubmit_of_length {t kind r1 r0 n : Byte} {data : List Byte} {s : State} (hop : s.op = .running)
    (hlength : data.length = if kind = 0x01 then n.toNat else 0) :
    checkSubmit (t :: kind :: r1 :: r0 :: n :: data) s =
      (decodeJob t kind r1 r0 n data).elim (.error .badValue) fun q => checkJobRefs q s := by
  simp only [checkSubmit, (submitLengthOk_iff ..).2 hlength, OpState.legalInRunning, hop]
  cases decodeJob t kind r1 r0 n data <;> rfl

theorem decodeJob_out_of_range {t kind r1 r0 n : Byte} {data : List Byte}
    (h : ¬ (t.toNat < 32 ∧ kind.toNat < 3 ∧ (kind = 0x00 → 1 ≤ n.toNat ∧ n.toNat ≤ 32) ∧
      (kind = 0x01 → n.toNat ≤ 32))) : decodeJob t kind r1 r0 n data = none := by
  rw [Option.eq_none_iff_forall_ne_some]
  intro q hq
  obtain ⟨ht, rfl, ⟨hmin, hmax, _⟩, _⟩ := decodeJob_eq_some.1 hq
  refine h ⟨lt_of_indexField ht, ?_⟩
  cases hkind : q.kind with rw [hkind] at hmin hmax
  | read => exact ⟨by decide, fun _ => ⟨hmin rfl, hmax (by decide)⟩, fun hcode => absurd hcode (by decide)⟩
  | write => exact ⟨by decide, fun hcode => absurd hcode (by decide), fun _ => hmax (by decide)⟩
  | probe => exact ⟨by decide, fun hcode => absurd hcode (by decide), fun hcode => absurd hcode (by decide)⟩

theorem decodeJob_in_range (t : Fin 32) {kind : Operation} (register : Word16) {n : Byte} (data : List Byte)
    (hmin : kind = .read → 1 ≤ n.toNat) (hmax : kind ≠ .probe → n.toNat ≤ 32) :
    decodeJob (byte t.val) kind.code (BitVec.ofNat 8 (register.toNat / 256)) (BitVec.ofNat 8 register.toNat) n data =
      some (jobRequest t kind register (if kind = .probe then 0 else n.toNat) data) :=
  decodeJob_eq_some.2 ⟨indexField_byte (by decide) t, rfl, ⟨hmin, hmax, rfl⟩, by rw [registerField_word]; rfl, rfl⟩

/-- The first reference or resource check that a request fails (R67 checks 4 and 5). -/
def JobRequest.refusal (q : JobRequest) (s : State) : Option ReplyStatus :=
  let t := s.target q.target
  let l := s.lane t.lane
  if t.state = .free then some .noEntry
  else if q.kind ≠ .probe ∧ registerFits t.width q.register = false then some .badValue
  else if t.state = .quarantined then some .quarantined
  else if l.state = .off ∨ l.state = .faulted then some .laneDown
  else if l.capacity < costOf q.kind t.width.val q.byteCount then some .tooLong
  else if Config.jobsPerLane ≤ l.jobs.length then some .queueFull
  else if q.needsBlock = true ∧ s.pool.free = 0 then some .noSpace
  else none

theorem checkJobRefs_eq (q : JobRequest) (s : State) : checkJobRefs q s = (q.refusal s).elim (.ok q) .error := by
  unfold checkJobRefs JobRequest.refusal
  dsimp only
  split_ifs <;> rfl

/-- The Register of a job fits its target, that of a PROBE being no matter (R67 check 4). -/
theorem registerFits_jobRequest (t : Fin 32) (kind : Operation) (register : Word16) (count : Nat) (data : List Byte)
    (width : Fin 3) :
    ((jobRequest t kind register count data).kind ≠ .probe ∧
        registerFits width (jobRequest t kind register count data).register = false) =
      (kind ≠ .probe ∧ 256 ^ width.val ≤ register.toNat) := by
  refine propext (and_congr_right fun hkind => ?_)
  have hregister : (jobRequest t kind register count data).register = register := if_neg hkind
  rw [registerFits_eq_false, hregister]

/-- The reply to a request that fails a check (R67 checks 4 and 5). -/
theorem refusal_code (t : Fin 32) (kind : Operation) (register : Word16) (count : Nat) (data : List Byte) (s : State) :
    ((jobRequest t kind register count data).refusal s).map ReplyStatus.code =
      (if (s.target t).state = .free then some 0x08
        else if kind ≠ .probe ∧ 256 ^ (s.target t).width.val ≤ register.toNat then some 0x06
        else if (s.target t).state = .quarantined then some 0x10
        else if (s.lane (s.target t).lane).state = .off ∨ (s.lane (s.target t).lane).state = .faulted then some 0x0F
        else if (s.lane (s.target t).lane).capacity < costOf kind (s.target t).width.val count then some 0x0E
        else if 8 ≤ (s.lane (s.target t).lane).jobs.length then some 0x0C
        else if kind = .write ∧ 1 ≤ count ∧ s.pool.free = 0 then some 0x0D
        else none) := by
  have hblock : ((jobRequest t kind register count data).needsBlock = true ∧ s.pool.free = 0) =
      (kind = .write ∧ 1 ≤ count ∧ s.pool.free = 0) := by
    rw [JobRequest.needsBlock_iff, and_assoc]
    rfl
  simp only [JobRequest.refusal, apply_ite (Option.map ReplyStatus.code)]
  refine ite_congr rfl (fun _ => rfl) fun _ => ?_
  refine ite_congr (registerFits_jobRequest t kind register count data _) (fun _ => rfl) fun _ => ?_
  refine ite_congr rfl (fun _ => rfl) fun _ => ite_congr rfl (fun _ => rfl) fun _ => ?_
  refine ite_congr rfl (fun _ => rfl) fun _ => ite_congr rfl (fun _ => rfl) fun _ => ?_
  exact ite_congr hblock (fun _ => rfl) fun _ => rfl

/-- A request that meets every condition passes the checks (R67 checks 4 and 5). -/
theorem refusal_none {t : Fin 32} {kind : Operation} {register : Word16} {count : Nat} {s : State}
    (hbound : (s.target t).state ≠ .free) (hregister : kind ≠ .probe → register.toNat < 256 ^ (s.target t).width.val)
    (hactive : (s.target t).state ≠ .quarantined) (hon : (s.lane (s.target t).lane).state ≠ .off)
    (hup : (s.lane (s.target t).lane).state ≠ .faulted)
    (hcost : costOf kind (s.target t).width.val count ≤ (s.lane (s.target t).lane).capacity)
    (hroom : (s.lane (s.target t).lane).jobs.length < 8) (hblock : kind = .write → 1 ≤ count → 1 ≤ s.pool.free)
    (data : List Byte) : (jobRequest t kind register count data).refusal s = none := by
  rw [← Option.map_eq_none_iff (f := ReplyStatus.code), refusal_code, if_neg hbound,
    if_neg fun h => Nat.not_le.2 (hregister h.1) h.2, if_neg hactive, if_neg (not_or.2 ⟨hon, hup⟩),
    if_neg (Nat.not_lt.2 hcost), if_neg (Nat.not_le.2 hroom), if_neg]
  rintro ⟨hwrite, hcount, hfull⟩
  exact Nat.ne_of_gt (hblock hwrite hcount) hfull

/-- A SUBMIT with a BODY of its length and its fields in range (R67). -/
theorem runSubmit_in_range {s : State} (hop : s.op = .running) (tag : Byte) (t : Fin 32) {kind : Operation}
    (register : Word16) {n : Byte} {data : List Byte} (hlength : data.length = if kind = .write then n.toNat else 0)
    (hmin : kind = .read → 1 ≤ n.toNat) (hmax : kind ≠ .probe → n.toNat ≤ 32) :
    runSubmit tag ([byte t.val, kind.code] ++ word register.toNat ++ [n] ++ data) s =
      carryOut tag 0x13 (checkJobRefs (jobRequest t kind register (if kind = .probe then 0 else n.toNat) data) s)
        (submit tag) s := by
  have hlength' : data.length = if kind.code = 0x01 then n.toNat else 0 := by
    rw [hlength, if_congr kind.code_eq_write rfl rfl]
  simp only [word, List.cons_append, List.nil_append]
  rw [runSubmit, checkSubmit_of_length hop hlength', decodeJob_in_range t register data hmin hmax]
  rfl

/-- Settles O40: the checks of R67 in their order, and the job that takes the first free number (R66, R68). -/
theorem submitChecksAndQueuesJob : Obligations.SubmitChecksAndQueuesJob := by
  refine ⟨fun s tag hadm hop => ⟨fun t kind r1 r0 n data hlength hrange => ?_, ?_⟩, ?_⟩
  · rw [exec_submit hadm, runSubmit, checkSubmit_of_length (s := admitted tag s) hop hlength,
      decodeJob_out_of_range hrange]
    rfl
  · rintro t kind register n data hlength hmin hmax count hcount _ rfl _ rfl status hstatus
    have hrefusal : ((jobRequest t kind register count data).refusal (admitted tag s)).map ReplyStatus.code =
        some status := (refusal_code ..).trans hstatus
    obtain ⟨refused, hrefused, rfl⟩ := Option.map_eq_some_iff.1 hrefusal
    rw [exec_submit hadm, runSubmit_in_range (s := admitted tag s) hop tag t register hlength hmin hmax, ← hcount,
      checkJobRefs_eq, hrefused]
    rfl
  · rintro s tag hadm hop hjobs t kind register n data hlength hmin hmax count hcount _ rfl _ rfl hbound hregister
      hactive hon hup hcost hroom _ rfl hblock number hlo hhi hfree hfirst
    have hrefusal : (jobRequest t kind register count data).refusal (admitted tag s) = none :=
      refusal_none (s := admitted tag s) hbound hregister hactive hon hup hcost hroom
        (fun hwrite hdata => hblock (by simp [hwrite, hdata])) data
    have hlen := length_heldNumbers hjobs
    obtain ⟨_, _, hnextlo, hnexthi⟩ := hjobs
    have hnumber : (admitted tag s).jobNumber = number :=
      freshNumber_eq_of_first hnextlo hnexthi hlen hlo hhi hfree hfirst
    have hnext : nextNumber number = if number = 65535 then 1 else number + 1 := by
      unfold nextNumber
      split_ifs <;> omega
    rw [exec_submit hadm, runSubmit_in_range (s := admitted tag s) hop tag t register hlength hmin hmax, ← hcount,
      checkJobRefs_eq, hrefusal, Option.elim_none, carryOut_ok, submit_eq, hnumber, hnext]
    rfl

end Sys2Proof.Machine

/-! PROOF. Jobs that are cancelled (R71), and the statement about CANCEL (R73). -/

namespace Sys2Proof.Machine

/-! ### Lanes that are told, and records of cancelled jobs (R43, R71) -/

theorem told_told (op : OpState) (l : Lane) : told op (told op l) = told op l := by
  by_cases h : op = .running ∧ l.state = .idle
  · simp [told, h]
  · simp [told, h]

theorem wakeLane_eq (i : Fin 4) (s : State) : wakeLane i s = s.setLane i (told s.op (s.lane i)) := by
  have h := wakeLane_setLane i (s.lane i) s
  rw [State.setLane_lane_eq] at h
  exact h

/-- The record of a job that is cancelled (R71). -/
def cancelledRecord (cycle : Word16) (j : Job) : Record :=
  ⟨.job j.number j.tag 0, j.target, cycle, .cancelled, none⟩

theorem jobRecord_cancelled (cycle : Word16) (j : Job) :
    jobRecord cycle j (Final.plain .cancelled) = cancelledRecord cycle j := by
  cases h : j.kind <;> simp [jobRecord, cancelledRecord, Job.acknowledged, Final.plain, Final.recordData, h]

/-- Jobs end CANCELLED, oldest first: their records join the Result Queue and their blocks are freed (R71, R108), before
the lanes are told. -/
def jobsCancelled (jobs : List Job) (s : State) : State :=
  { s with records := s.records ++ jobs.map (cancelledRecord s.cycle)
           pool := { s.pool with free := s.pool.free + jobs.countP fun j => j.data.isSome } }

theorem jobsCancelled_nil (s : State) : jobsCancelled [] s = s := by
  simp [jobsCancelled]

theorem jobsCancelled_singleton (j : Job) (s : State) :
    jobsCancelled [j] s =
      { s with records := s.records ++ [cancelledRecord s.cycle j]
               pool := { s.pool with free := s.pool.free + (if j.data.isSome then 1 else 0) } } := by
  rw [jobsCancelled, List.countP_singleton]
  rfl

theorem jobsCancelled_cons (j : Job) (jobs : List Job) (s : State) :
    jobsCancelled (j :: jobs) s = jobsCancelled jobs (jobsCancelled [j] s) := by
  simp only [jobsCancelled, List.map_cons, List.map_nil, List.append_assoc, List.singleton_append, List.countP_cons,
    List.countP_nil, Nat.add_assoc, Nat.zero_add, Nat.add_comm]

/-- A job that is cancelled, and what its end tells the lanes (R71, R108). -/
theorem endQueuedJob_cancelled (j : Job) (s : State) :
    endQueuedJob j .cancelled s =
      { jobsCancelled [j] s with lanes := s.lanes.map fun k => if j.data.isSome then told s.op k else k } := by
  rw [endQueuedJob_eq, jobRecord_cancelled, jobsCancelled_singleton]

/-- A state by its lanes and the fields that an operation replaces besides. -/
theorem State.eq_withLanes {u v : State} {lanes : Table Lane 4} (h : u = { v with lanes := u.lanes })
    (hlanes : ∀ k, u.lane k = lanes.get k) : u = { v with lanes := lanes } := by
  have hall : u.lanes = lanes := Table.ext_get hlanes
  rw [← hall]
  exact h

/-- Lane `i` is changed to `l`, every lane is told of a block that is freed, and lane `i` is told (R43). -/
theorem wakeLane_freed {s u : State} {i : Fin 4} {l : Lane} {freed : Bool} (hop : u.op = s.op)
    (hu : ∀ k, u.lane k = if freed then told s.op ((s.setLane i l).lane k) else (s.setLane i l).lane k) (k : Fin 4) :
    (wakeLane i u).lane k =
      if k = i then told s.op l else if freed then told s.op (s.lane k) else s.lane k := by
  rw [wakeLane_eq, State.setLane_lane, hop, hu, hu, State.setLane_lane_self]
  by_cases hk : k = i
  · rw [if_pos hk, if_pos hk]
    cases freed
    · rfl
    · exact told_told ..
  · rw [if_neg hk, if_neg hk, State.setLane_lane_ne _ _ _ _ hk]

/-! ### CANCEL (R73) -/

theorem exec_cancel {s : State} {tag : Byte} (h : Admits s tag) (body : List Byte) :
    exec (.cancel tag body) s = .next (arbitrate (runCancel tag body (admitted tag s))) := hostCommand_admitted h

/-- A two-byte quantity is read back (R159). -/
theorem wordField_word {n : Nat} (h : n ≤ 65535) : wordField (BitVec.ofNat 8 (n / 256)) (BitVec.ofNat 8 n) = n := by
  simp only [wordField, BitVec.toNat_ofNat]
  omega

/-- No other lane holds the number of a job, be it queued or running (R66). -/
theorem lane_eq_of_mem_numbers {s : State} (h : JobInv s) {n : Nat} {i k : Fin 4} (hi : n ∈ (s.lane i).numbers)
    (hk : n ∈ (s.lane k).numbers) : i = k := by
  obtain ⟨_, hnodup, _⟩ := h
  by_contra hne
  exact (nodup_heldNumbers.1 hnodup).2 i k hne n hi hk

theorem queueOf_eq_none {s : State} {n : Nat} (h : ∀ i, ∀ j ∈ (s.lane i).jobs, j.number ≠ n) : queueOf s n = none := by
  simpa [queueOf] using h

/-- The queue in which a job of the number stands (R73). -/
theorem queueOf_eq_some {s : State} (h : JobInv s) {i : Fin 4} {j : Job} (hj : j ∈ (s.lane i).jobs) :
    queueOf s j.number = some i := by
  have hmem (k : Fin 4) (hk : ∃ x ∈ (s.lane k).jobs, x.number = j.number) : k = i :=
    lane_eq_of_mem_numbers h (Lane.mem_numbers.2 (.inl hk)) (Lane.mem_numbers.2 (.inl ⟨j, hj, rfl⟩))
  cases hfound : queueOf s j.number with
  | none => exact absurd (List.find?_eq_none.1 hfound i (List.mem_finRange i)) (by simpa using ⟨j, hj, rfl⟩)
  | some k => rw [hmem k (by simpa using List.find?_some hfound)]

theorem jobRunning_iff (s : State) (n : Nat) :
    jobRunning s n = true ↔ ∃ i, ∃ j ∈ (s.lane i).runningJob, j.number = n := by
  unfold jobRunning
  rw [Table.any_toList]
  refine exists_congr fun i => ?_
  change _ ↔ ∃ j ∈ (s.lanes.get i).runningJob, j.number = n
  cases (s.lanes.get i).runningJob <;> simp

/-- A running job is in no queue (R66). -/
theorem number_ne_of_running {s : State} (h : JobInv s) {i : Fin 4} {j : Job} (hj : j ∈ (s.lane i).runningJob)
    (k : Fin 4) (x : Job) (hx : x ∈ (s.lane k).jobs) : x.number ≠ j.number := by
  intro heq
  obtain rfl : k = i := lane_eq_of_mem_numbers h (Lane.mem_numbers.2 (.inl ⟨x, hx, heq⟩))
    (Lane.mem_numbers.2 (.inr ⟨j, hj, rfl⟩))
  obtain ⟨_, hnodup, _⟩ := h
  have hlane := (nodup_heldNumbers.1 hnodup).1 k
  exact List.disjoint_of_nodup_append hlane (List.mem_map_of_mem hx)
    (heq ▸ List.mem_map_of_mem (Option.mem_toList.2 hj))

/-- A number that no queued job has is held exactly by a running job (R66). -/
theorem jobRunning_iff_of_not_queued {s : State} {n : Nat} (h : ∀ i, ∀ j ∈ (s.lane i).jobs, j.number ≠ n) :
    jobRunning s n = true ↔ n ∈ heldNumbers s := by
  rw [jobRunning_iff, mem_heldNumbers]
  refine exists_congr fun i => ?_
  rw [Lane.mem_numbers, or_iff_right]
  rintro ⟨j, hj, hnum⟩
  exact h i j hj hnum

/-- The checks of CANCEL in their order (R73). -/
theorem checkCancel_word {n : Nat} (hn : n ≤ 65535) {s : State} (hop : s.op ≠ .init) :
    checkCancel (word n) s =
      if n = 0 then .error .badValue
      else (queueOf s n).elim (if jobRunning s n then .error .running else .error .notFound) fun i =>
        if s.slotFree then .ok (i, n) else .error .noSpace := by
  simp only [checkCancel, word, OpState.legalAlways_of_ne_init hop, if_true, wordField_word hn]
  cases queueOf s n <;> rfl

/-- A queued job leaves its queue wherever it stands and ends CANCELLED (R73). -/
theorem cancelJob_eq {s : State} {i : Fin 4} {before after : List Job} {j : Job}
    (hqueue : (s.lane i).jobs = before ++ j :: after) (hfirst : ∀ x ∈ before, x.number ≠ j.number) :
    cancelJob i j.number s =
      { jobsCancelled [j] s with
          lanes := Table.ofFn fun k =>
            if k = i then told s.op { s.lane i with jobs := before ++ after }
            else if j.data.isSome then told s.op (s.lane k) else s.lane k } := by
  have hbefore : ∀ x ∈ before, ¬ (x.number == j.number) = true := fun x hx => by simpa using hfirst x hx
  have hfound : (s.lane i).jobs.find? (fun x => x.number == j.number) = some j := by
    rw [hqueue, List.find?_append, List.find?_eq_none.2 hbefore]
    simp
  have hleft : (s.lane i).jobs.eraseP (fun x => x.number == j.number) = before ++ after := by
    rw [hqueue, List.eraseP_append_right _ hbefore]
    simp
  unfold cancelJob
  rw [hfound]
  dsimp only
  rw [hleft]
  refine State.eq_withLanes (v := jobsCancelled [j] s) ?_ fun k => ?_
  · rw [wakeLane_frame, endQueuedJob_cancelled]
    rfl
  · rw [Table.get_ofFn]
    refine wakeLane_freed ?_ (endQueuedJob_lane j .cancelled _) k
    rw [endQueuedJob_cancelled]
    rfl

/-- Settles O41: the checks of R73 in their order, and the job that leaves its queue. -/
theorem cancelRemovesJob : Obligations.CancelRemovesJob := by
  intro s tag number hadm hop hjobs hnumber
  have hop' : (admitted tag s).op ≠ .init := hop
  refine ⟨fun hrefused => ?_, fun i before j after hqueue hj => ?_⟩
  · rw [exec_cancel hadm, runCancel, checkCancel_word hnumber hop', carryOut_check]
    refine next_arbitrate_congr ?_
    by_cases hzero : number = 0
    · rw [if_pos hzero, if_pos hzero]
      rfl
    · have hnot (i : Fin 4) (j : Job) (hj : j ∈ (s.lane i).jobs) : j.number ≠ number := by
        rintro rfl
        rcases hrefused with hzero' | hfree | ⟨k, x, hx, hrunning⟩
        · exact hzero hzero'
        · exact hfree (mem_heldNumbers.2 ⟨i, Lane.mem_numbers.2 (.inl ⟨j, hj, rfl⟩)⟩)
        · exact number_ne_of_running hjobs hx i j hj hrunning.symm
      have hqueue : queueOf (admitted tag s) number = none := queueOf_eq_none hnot
      have hrunning : jobRunning (admitted tag s) number = true ↔ number ∈ heldNumbers s :=
        jobRunning_iff_of_not_queued (s := admitted tag s) hnot
      rw [if_neg hzero, if_neg hzero, hqueue, Option.elim_none, carryOut_check, carryOut_error]
      exact (if_congr hrunning rfl rfl).trans (apply_ite (denied tag 0x94 · s) ..).symm
  · subst hj
    have hmem : j ∈ (s.lane i).jobs := by simp [hqueue]
    have hfound : queueOf (admitted tag s) j.number = some i := queueOf_eq_some hjobs hmem
    obtain ⟨hqueues, hnodup, _⟩ := hjobs
    obtain ⟨hlo, _⟩ := (hqueues i).2 j hmem
    have hpos : j.number ≠ 0 := Nat.ne_of_gt hlo
    have hcheck : checkCancel (word j.number) (admitted tag s) =
        if s.slotFree then .ok (i, j.number) else .error .noSpace := by
      rw [checkCancel_word hnumber hop', if_neg hpos, hfound]
      rfl
    refine ⟨fun hfull => ?_, fun hfree => ?_⟩
    · rw [exec_cancel hadm, runCancel, hcheck, if_neg (by rw [slotFree_iff]; omega), carryOut_error]
      rfl
    · have hfirst : ∀ x ∈ before, x.number ≠ j.number := by
        have hlane := (nodup_heldNumbers.1 hnodup).1 i
        rw [Lane.numbers, hqueue, List.map_append, List.map_cons, List.append_assoc] at hlane
        intro x hx heq
        exact List.disjoint_of_nodup_append hlane (List.mem_map_of_mem hx) (by simp [heq])
      rw [exec_cancel hadm, runCancel, hcheck, if_pos ((slotFree_iff s).2 hfree), carryOut_ok, cancel,
        cancelJob_eq (s := admitted tag s) hqueue hfirst, jobsCancelled_singleton]
      rfl

end Sys2Proof.Machine

/-! PROOF. The statement about FLUSH_LANE (R75) and the removals of the drain (R77). -/

namespace Sys2Proof.Machine

/-! ### FLUSH_LANE (R75) -/

theorem exec_flushLane {s : State} {tag : Byte} (h : Admits s tag) (body : List Byte) :
    exec (.flushLane tag body) s = .next (arbitrate (runFlushLane tag body (admitted tag s))) :=
  hostCommand_admitted h

/-- The checks of FLUSH_LANE (R75). -/
theorem checkFlushLane_byte (i : Fin 4) {s : State} (hop : s.op ≠ .init) :
    checkFlushLane [byte i.val] s =
      if 48 - (s.records.length + s.reservations) < (s.lane i).jobs.length then .error .noSpace else .ok i := by
  rw [checkFlushLane, checkIndex_byte (by decide) i hop]
  rfl

theorem checkFlushLane_out_of_range {b : Byte} (hb : 4 ≤ b.toNat) {s : State} (hop : s.op ≠ .init) :
    checkFlushLane [b] s = .error .badValue := by
  rw [checkFlushLane, checkIndex_out_of_range hb hop]

/-- Jobs that are cancelled one after the other (R71, R75). -/
theorem foldl_endQueuedJob (jobs : List Job) (s : State) :
    jobs.foldl (fun t j => endQueuedJob j .cancelled t) s =
      { jobsCancelled jobs s with
          lanes := s.lanes.map fun k => if jobs.any fun j => j.data.isSome then told s.op k else k } := by
  induction jobs generalizing s with
  | nil =>
    rw [jobsCancelled_nil]
    refine State.eq_withLanes rfl fun k => ?_
    rw [Table.get_map]
    rfl
  | cons j jobs ih =>
    rw [List.foldl_cons, ih, endQueuedJob_cancelled, jobsCancelled_cons j jobs s]
    refine State.eq_withLanes rfl fun k => (Table.get_map ..).trans ?_
    rw [Table.get_map, Table.get_map, List.any_cons]
    cases j.data.isSome
    · rfl
    · cases jobs.any fun j => j.data.isSome
      · rfl
      · exact told_told ..

/-- Every queued job of the lane ends CANCELLED and the lane is told if there was one (R75, R43). -/
theorem flushedLanes_eq (i : Fin 4) (s : State) :
    (if (s.lane i).jobs.isEmpty then flushJobs i s else wakeLane i (flushJobs i s)) =
      { jobsCancelled (s.lane i).jobs s with
          lanes := Table.ofFn fun k =>
            if k = i then (if (s.lane i).jobs = [] then s.lane i else told s.op { s.lane i with jobs := [] })
            else if (s.lane i).jobs.any fun j => j.data.isSome then told s.op (s.lane k) else s.lane k } := by
  unfold flushJobs
  rw [foldl_endQueuedJob]
  cases hjobs : (s.lane i).jobs with
  | nil =>
    refine State.eq_withLanes rfl fun k => (Table.get_map ..).trans ?_
    have hsame : s.setLane i { s.lane i with jobs := [] } = s := by
      rw [← hjobs]
      exact State.setLane_lane_eq s i
    rw [hsame, Table.get_ofFn]
    by_cases hk : k = i
    · rw [hk, if_pos rfl]
      rfl
    · rw [if_neg hk]
      rfl
  | cons j rest =>
    refine State.eq_withLanes (v := jobsCancelled (j :: rest) s) ?_ fun k => ?_
    · rw [List.isEmpty_cons, if_neg Bool.false_ne_true, wakeLane_frame]
      rfl
    · rw [Table.get_ofFn]
      refine wakeLane_freed ?_ (fun k => ?_) k
      · rfl
      · exact Table.get_map ..

/-- The drain removes the head of a queue (R77). -/
theorem drainHead_eq {i : Fin 4} {j : Job} {rest : List Job} {s : State} (hop : s.op = .draining) :
    drainHead i j rest s =
      { jobsCancelled [j] s with
          drainCancelled := s.drainCancelled + 1
          lanes := s.lanes.set i { s.lane i with jobs := rest } } := by
  unfold drainHead
  rw [endQueuedJob_cancelled]
  refine State.eq_withLanes (v := { jobsCancelled [j] s with drainCancelled := s.drainCancelled + 1 }) rfl fun k => ?_
  refine (Table.get_map ..).trans ?_
  have hquiet (l : Lane) : told s.op l = l := if_neg (by simp [hop])
  cases j.data.isSome
  · rfl
  · exact hquiet _

theorem execDrainRemoval_cons {i : Fin 4} {j : Job} {rest : List Job} {s : State} (h : (s.lane i).jobs = j :: rest) :
    execDrainRemoval i s =
      if s.op = .draining ∧ j.cancelling = true ∧ s.slotFree = true then finish (finishDrain [] (drainHead i j rest s))
      else .next s := by
  unfold execDrainRemoval
  rw [h]

/-- Settles O42: the checks of R75 in their order, the queue that ends, and the head that the drain removes (R77). -/
theorem flushAndDrainCancelJobs : Obligations.FlushAndDrainCancelJobs := by
  refine ⟨fun s tag hadm hop => ?_, fun s i => ⟨fun hstays => ?_, fun j rest hjobs hop hmarked hfree => ?_⟩⟩
  · have hop' : (admitted tag s).op ≠ .init := hop
    refine ⟨fun b hb => ?_, ?_⟩
    · rw [exec_flushLane hadm, runFlushLane, checkFlushLane_out_of_range hb hop', carryOut_error]
      rfl
    · rintro i _ rfl
      rw [exec_flushLane hadm, runFlushLane, checkFlushLane_byte i hop', carryOut_check, carryOut_ok]
      refine ⟨fun hfull => next_arbitrate_congr (if_pos hfull), fun hroom => next_arbitrate_congr ?_⟩
      refine (if_neg (Nat.not_lt.2 hroom)).trans ?_
      exact congrArg (finishDrain _) (flushedLanes_eq i (admitted tag s))
  · change execDrainRemoval i s = _
    unfold execDrainRemoval
    split
    · rename_i j rest hjobs
      refine if_neg fun hgoes => ?_
      obtain ⟨hop, _, hfree⟩ := hgoes
      rw [slotFree_iff] at hfree
      rcases hstays with hop' | hempty | hfull
      · exact hop' hop
      · rw [hempty] at hjobs
        cases hjobs
      · omega
    · rfl
  · change execDrainRemoval i s = _
    rw [execDrainRemoval_cons hjobs, if_pos ⟨hop, hmarked, (slotFree_iff s).2 hfree⟩, drainHead_eq hop,
      jobsCancelled_singleton]
    rfl

end Sys2Proof.Machine

/-! PROOF. Alert lines, ALERT tiers and running reads (R79, R81): the invariant with at most one line on its way between
a tier, a lane and rest, and what a happening that moves no line may do. -/

namespace Sys2Proof.Machine

/-! ### The read that a lane runs (R47) -/

/-- The alert line that a transaction of this Kind serves. -/
def Work.alertLine : Work → Option (Fin 8)
  | .alert l => some l
  | .poll _ | .job _ | .probe => none

/-- The alert line whose read the lane runs. -/
def Lane.servedLine (l : Lane) : Option (Fin 8) := l.txn.bind fun x => x.work.alertLine

theorem alertServed_eq (s : State) (i : Fin 4) : alertServed s i = (s.lane i).servedLine := by
  unfold alertServed Lane.servedLine Work.alertLine
  cases (s.lane i).txn with
  | none => rfl
  | some x => cases hwork : x.work <;> simp [hwork]

/-! ### The invariant with one line on its way -/

/-- Line `l` is RUNNING exactly when a lane runs its read, and in the ALERT tier of its lane exactly when it is PENDING
(R81). -/
structure LinePlaced (s : State) (l : Fin 8) : Prop where
  running : (s.line l).state = .running ↔ ∃ i, (s.lane i).servedLine = some l
  pending : ∀ i, l ∈ (s.lane i).alertTier ↔ (s.line l).state = .pending ∧ lineLane s l = i

/-- Line `l` is in no ALERT tier, and no lane runs its read. -/
structure LineAbsent (s : State) (l : Fin 8) : Prop where
  tiers : ∀ i, l ∉ (s.lane i).alertTier
  served : ∀ i, (s.lane i).servedLine ≠ some l

/-- Every line is in its place, but for the one that is `away`, on its way between a tier, a lane and rest; the other
rules of R26, R37 and R79 to R81 hold of every line and lane. -/
structure LinesInv (s : State) (away : Option (Fin 8)) : Prop where
  sound : ∀ l, (s.line l).Sound
  bound : ∀ l, (s.line l).enabled = true → (s.poll (s.line l).boundPoll).state ≠ .free
  placed : ∀ l, away ≠ some l → LinePlaced s l
  absent : ∀ l, away = some l → LineAbsent s l
  tiers : ∀ i, (s.lane i).alertTier.Nodup
  busy : ∀ i, (s.lane i).state = .busy ↔ (s.lane i).txn.isSome = true
  once : ∀ i k l, (s.lane i).servedLine = some l → (s.lane k).servedLine = some l → i = k
  targets : ∀ p, (s.poll p).state ≠ .free → (s.target (s.poll p).defn.target).state ≠ .free

theorem alertInv_iff {s : State} : AlertInv s ↔ LinesInv s none := by
  unfold AlertInv
  simp only [alertServed_eq]
  constructor
  · rintro ⟨hlines, htiers, hlanes, honce, htargets⟩
    exact ⟨fun l => (hlines l).1, fun l => (hlines l).2.1, fun l _ => ⟨(hlines l).2.2, fun i => htiers i l⟩, nofun,
      fun i => (hlanes i).1, fun i => (hlanes i).2, honce, htargets⟩
  · intro h
    exact ⟨fun l => ⟨h.sound l, h.bound l, (h.placed l nofun).running⟩, fun i l => (h.placed l nofun).pending i,
      fun i => ⟨h.tiers i, h.busy i⟩, h.once, h.targets⟩

theorem Line.Sound.enabled_of_state {l : Line} (h : l.Sound) (hoff : l.state ≠ .off) (hrun : l.state ≠ .running) :
    l.enabled = true := by
  cases hen : l.enabled with
  | true => rfl
  | false =>
    rcases (h.2 hen).2 with hs | ⟨hs, _⟩
    · exact absurd hs hoff
    · exact absurd hs hrun

theorem Line.Sound.enabled_of_pending {l : Line} (h : l.Sound) (hp : l.state = .pending) : l.enabled = true :=
  h.enabled_of_state (by simp [hp]) (by simp [hp])

theorem Line.Sound.enabled_of_not_closing {l : Line} (h : l.Sound) (hoff : l.state ≠ .off) (hc : l.closing = false) :
    l.enabled = true := by
  cases hen : l.enabled with
  | true => rfl
  | false =>
    rcases (h.2 hen).2 with hs | ⟨_, hs⟩
    · exact absurd hs hoff
    · simp [hc] at hs

/-- A line that is enabled and not OFF, its Closing clear (R79). -/
theorem Line.sound_of_enabled {l : Line} (hen : l.enabled = true) (hoff : l.state ≠ .off) (hc : l.closing = false) :
    l.Sound :=
  ⟨fun _ => ⟨hoff, hc⟩, fun h => absurd hen (by simp [h])⟩

/-! ### What a happening that moves no line may do -/

/-- The line keeps its place and its Bound Poll, and is not enabled afresh. -/
structure Line.KeepsPlace (a b : Line) : Prop where
  enabled : b.enabled = true → a.enabled = true
  boundPoll : b.boundPoll = a.boundPoll
  state : b.state = a.state
  sound : a.Sound → b.Sound

theorem Line.KeepsPlace.refl (a : Line) : a.KeepsPlace a := ⟨id, rfl, rfl, id⟩

theorem Line.KeepsPlace.trans {a b c : Line} (hab : a.KeepsPlace b) (hbc : b.KeepsPlace c) : a.KeepsPlace c where
  enabled := hab.enabled ∘ hbc.enabled
  boundPoll := hbc.boundPoll.trans hab.boundPoll
  state := hbc.state.trans hab.state
  sound := hbc.sound ∘ hab.sound

/-- The lane keeps its ALERT tier and the alert read that it runs, if any. -/
structure Lane.SameReads (a b : Lane) : Prop where
  alertTier : b.alertTier = a.alertTier
  servedLine : b.servedLine = a.servedLine
  busy : (a.state = .busy ↔ a.txn.isSome = true) → (b.state = .busy ↔ b.txn.isSome = true)

/-- The lane keeps its ALERT tier and the alert read that it runs, and starts no transaction. -/
structure Lane.KeepsReads (a b : Lane) : Prop extends Lane.SameReads a b where
  resting : a.state ≠ .busy → b.state ≠ .busy

theorem Lane.KeepsReads.refl (a : Lane) : a.KeepsReads a := ⟨⟨rfl, rfl, id⟩, id⟩

theorem Lane.KeepsReads.trans {a b c : Lane} (hab : a.KeepsReads b) (hbc : b.KeepsReads c) : a.KeepsReads c where
  alertTier := hbc.alertTier.trans hab.alertTier
  servedLine := hbc.servedLine.trans hab.servedLine
  busy := hbc.busy ∘ hab.busy
  resting := hbc.resting ∘ hab.resting

theorem Lane.servedLine_congr {a b : Lane} (h : b.txn = a.txn) : b.servedLine = a.servedLine := by
  rw [Lane.servedLine, h, Lane.servedLine]

theorem Lane.KeepsReads.of_same {a b : Lane} (ht : b.alertTier = a.alertTier) (hx : b.txn = a.txn)
    (hs : b.state = a.state) : a.KeepsReads b where
  alertTier := ht
  servedLine := Lane.servedLine_congr hx
  busy := by rw [hs, hx]; exact id
  resting := by rw [hs]; exact id

/-- A lane that is not BUSY takes another State but BUSY. -/
theorem Lane.KeepsReads.of_resting {a b : Lane} (ht : b.alertTier = a.alertTier) (hx : b.txn = a.txn)
    (ha : a.state ≠ .busy) (hb : b.state ≠ .busy) : a.KeepsReads b where
  alertTier := ht
  servedLine := Lane.servedLine_congr hx
  busy h := by rw [hx]; exact iff_of_false hb fun hsome => ha (h.2 hsome)
  resting _ := hb

theorem Lane.keepsReads_gains (l : Lane) (woken : Bool) : l.KeepsReads (l.gains [] woken) :=
  .of_same (List.append_nil _) rfl rfl

theorem Lane.keepsReads_wake (l : Lane) : l.KeepsReads l.wake := .of_same (by simp) (by simp) (by simp)

theorem told_keepsReads (op : OpState) (l : Lane) : l.KeepsReads (told op l) := by
  rw [told_frame]
  exact .of_same rfl rfl rfl

/-- The end of a transaction that is no alert read (R55). -/
theorem Lane.keepsReads_endTxn {l : Lane} (h : l.servedLine = none) (status : RecordStatus) :
    l.KeepsReads (l.endTxn status) := by
  have hstate : (if status.needsRecovery then LaneState.recovering else .idle) ≠ .busy := by split <;> decide
  rw [Lane.endTxn_eq]
  exact { alertTier := rfl, servedLine := h.symm, busy := fun _ => iff_of_false hstate nofun
          resting := fun _ => hstate }

theorem Lane.keepsReads_retry {l : Lane} {x : Transaction} (h : l.txn = some x) (t : Target) :
    l.KeepsReads (l.retry x t) where
  alertTier := rfl
  servedLine := by rw [Lane.servedLine, Lane.servedLine, h]; rfl
  busy := by rw [h]; exact id
  resting := id

theorem unlisted_keepsReads (op : OpState) (p : Fin 48) (l : Lane) : l.KeepsReads (unlisted op p l) := by
  unfold unlisted
  split
  · refine .trans ?_ (told_keepsReads op _)
    exact .of_same rfl rfl rfl
  · exact .refl l

/-- A mark on a transaction leaves its Kind (R25). -/
theorem definitionEndMark_work (s : State) (p : Fin 48) (x : Transaction) :
    (definitionEndMark s p x).work = x.work := by
  unfold definitionEndMark
  split
  · split <;> rfl
  · split <;> rfl
  · rfl
  · rfl

theorem definitionEnded_keepsReads (s : State) (p : Fin 48) (l : Lane) : l.KeepsReads (definitionEnded s p l) := by
  refine .trans ?_ (unlisted_keepsReads s.op p _)
  cases h : l.txn with
  | none => exact .of_same rfl (by simp [h]) rfl
  | some x =>
    exact { alertTier := rfl, servedLine := by simp [Lane.servedLine, h, definitionEndMark_work]
            busy := by simp [h], resting := id }

theorem LaneState.afterSetLane_eq_busy (st : LaneState) (enable : Bool) :
    st.afterSetLane enable = .busy ↔ st = .busy := by
  cases st <;> cases enable <;> decide

theorem Lane.keepsReads_withSettings (l : Lane) (interval : Nat) (q : LaneRequest) :
    l.KeepsReads (l.withSettings interval q) where
  alertTier := rfl
  servedLine := rfl
  busy h := (LaneState.afterSetLane_eq_busy ..).trans h
  resting h hbusy := h ((LaneState.afterSetLane_eq_busy ..).1 hbusy)

/-- From `s` to `u` no line leaves its place. -/
structure KeepsReads (s u : State) : Prop where
  lines : ∀ l, (s.line l).KeepsPlace (u.line l)
  lanes : ∀ i, (s.lane i).KeepsReads (u.lane i)

theorem KeepsReads.refl (s : State) : KeepsReads s s := ⟨fun _ => .refl _, fun _ => .refl _⟩

theorem KeepsReads.trans {s t u : State} (hst : KeepsReads s t) (htu : KeepsReads t u) : KeepsReads s u where
  lines l := (hst.lines l).trans (htu.lines l)
  lanes i := (hst.lanes i).trans (htu.lanes i)

theorem KeepsReads.of_lanes {s u : State} (hn : u.lines = s.lines) (hl : ∀ i, (s.lane i).KeepsReads (u.lane i)) :
    KeepsReads s u where
  lines l := by rw [State.line, State.line, hn]; exact .refl _
  lanes := hl

theorem KeepsReads.of_same {s u : State} (hn : u.lines = s.lines) (hl : u.lanes = s.lanes) : KeepsReads s u :=
  .of_lanes hn fun i => by rw [State.lane, State.lane, hl]; exact .refl _

theorem keepsReads_setLane {s : State} {i : Fin 4} {x : Lane} (h : (s.lane i).KeepsReads x) :
    KeepsReads s (s.setLane i x) := by
  refine .of_lanes rfl fun k => ?_
  rw [State.setLane_lane]
  split
  · rename_i hk
    exact hk ▸ h
  · exact .refl _

theorem keepsReads_setLine {s : State} {l : Fin 8} {x : Line} (h : (s.line l).KeepsPlace x) :
    KeepsReads s (s.setLine l x) := by
  refine ⟨fun k => ?_, fun _ => .refl _⟩
  rw [State.setLine_line]
  split
  · rename_i hk
    exact hk ▸ h
  · exact .refl _

theorem keepsReads_mapLanes {s : State} {f : Lane → Lane} (h : ∀ l : Lane, l.KeepsReads (f l)) :
    KeepsReads s { s with lanes := s.lanes.map f } := by
  refine .of_lanes rfl fun k => ?_
  rw [State.lane, State.lane, Table.get_map]
  exact h _

theorem KeepsReads.foldl {α : Type} {f : State → α → State} (hf : ∀ s a, KeepsReads s (f s a)) (as : List α)
    (s : State) : KeepsReads s (as.foldl f s) :=
  foldl_keeps (P := KeepsReads s) (fun u a h => h.trans (hf u a)) as s (.refl s)

/-- From `s` to `u` a defined entry to which an enabled line is bound stays defined and on its lane (R26), and defined
entries keep bound targets (R5). -/
structure KeepsBoundPolls (s u : State) : Prop where
  bound : ∀ l, (s.line l).enabled = true → (s.poll (s.line l).boundPoll).state ≠ .free →
    (u.poll (s.line l).boundPoll).state ≠ .free ∧
      ((s.target (s.poll (s.line l).boundPoll).defn.target).state ≠ .free →
        pollLane u (s.line l).boundPoll = pollLane s (s.line l).boundPoll)
  targets : (∀ p, (s.poll p).state ≠ .free → (s.target (s.poll p).defn.target).state ≠ .free) →
    ∀ p, (u.poll p).state ≠ .free → (u.target (u.poll p).defn.target).state ≠ .free

theorem KeepsBoundPolls.of_entries {s u : State} (ht : ∀ t, (s.target t).SameBinding (u.target t))
    (hp : ∀ p, (s.poll p).SameDefinition (u.poll p)) : KeepsBoundPolls s u where
  bound l _ hfree := by
    rw [(hp _).state, pollLane, (hp _).defn, (ht _).lane]
    exact ⟨hfree, fun _ => rfl⟩
  targets h p hdefined := by
    rw [(hp p).state] at hdefined
    rw [(hp p).defn]
    exact mt (ht _).free.1 (h p hdefined)

theorem Steady.keepsBoundPolls {s u : State} (h : Steady s u) : KeepsBoundPolls s u := .of_entries h.targets h.polls

theorem KeepsBoundPolls.of_tables {s u : State} (ht : u.targets = s.targets) (hp : u.polls = s.polls) :
    KeepsBoundPolls s u :=
  .of_entries (fun t => by rw [State.target, State.target, ht]; exact .refl _)
    fun p => by rw [State.poll, State.poll, hp]; exact .refl _

section
variable {s u : State} {away : Option (Fin 8)} (h : LinesInv s away)
include h

/-- Lines, tiers and running reads agree after a happening that moves no line. -/
theorem LinesInv.of_sameReads (hlines : ∀ l, (s.line l).KeepsPlace (u.line l))
    (hlanes : ∀ i, (s.lane i).SameReads (u.lane i)) (hpolls : KeepsBoundPolls s u) : LinesInv u away where
  sound l := (hlines l).sound (h.sound l)
  bound l hen := by
    have hen' := (hlines l).enabled hen
    rw [(hlines l).boundPoll]
    exact (hpolls.bound l hen' (h.bound l hen')).1
  placed l hl := by
    obtain ⟨hrunning, hpending⟩ := h.placed l hl
    refine ⟨?_, fun i => ?_⟩
    · simp only [(hlines l).state, hrunning, (hlanes _).servedLine]
    · rw [(hlanes i).alertTier, hpending, (hlines l).state]
      refine and_congr_right fun hp => ?_
      have hen := (h.sound l).enabled_of_pending hp
      have hlane : lineLane u l = lineLane s l := by
        rw [lineLane, (hlines l).boundPoll]
        exact (hpolls.bound l hen (h.bound l hen)).2 (h.targets _ (h.bound l hen))
      rw [hlane]
  absent l hl := by
    obtain ⟨htiers, hserved⟩ := h.absent l hl
    exact ⟨fun i => (hlanes i).alertTier ▸ htiers i, fun i => (hlanes i).servedLine ▸ hserved i⟩
  tiers i := (hlanes i).alertTier ▸ h.tiers i
  busy i := (hlanes i).busy (h.busy i)
  once i k l := by
    rw [(hlanes i).servedLine, (hlanes k).servedLine]
    exact h.once i k l
  targets := hpolls.targets h.targets

theorem LinesInv.of_kept (hk : KeepsReads s u) (hpolls : KeepsBoundPolls s u) : LinesInv u away :=
  h.of_sameReads hk.lines (fun i => (hk.lanes i).toSameReads) hpolls

theorem LinesInv.of_steady (hk : KeepsReads s u) (hs : Steady s u) : LinesInv u away :=
  h.of_kept hk hs.keepsBoundPolls

/-- The tables of targets and polls stay as they are. -/
theorem LinesInv.of_tables (hk : KeepsReads s u) (ht : u.targets = s.targets) (hp : u.polls = s.polls) :
    LinesInv u away :=
  h.of_kept hk (.of_tables ht hp)

end

/-! ### A line on its way (R82, R84, R85, R90) -/

/-- A line that keeps its Bound Poll stays on its lane (R79). -/
theorem lineLane_setLine {s : State} {l : Fin 8} {x : Line} (h : x.boundPoll = (s.line l).boundPoll) :
    lineLane (s.setLine l x) l = lineLane s l := by
  rw [lineLane, State.setLine_line_self, h]
  rfl

/-- A line is ARMED or in HOLDOFF. -/
def Line.Waiting (l : Line) : Prop := l.state = .armed ∨ l.state = .holdoff

theorem Line.Sound.enabled_of_waiting {l : Line} (h : l.Sound) (hw : l.Waiting) : l.enabled = true := by
  rcases hw with hs | hs <;> exact h.enabled_of_state (by simp [hs]) (by simp [hs])

/-- A line that is neither PENDING nor RUNNING is in no tier and on no lane. -/
theorem LinesInv.depart {s : State} (h : LinesInv s none) {a : Fin 8} (hp : (s.line a).state ≠ .pending)
    (hr : (s.line a).state ≠ .running) : LinesInv s (some a) where
  __ := h
  placed l _ := h.placed l nofun
  absent l hl := by
    obtain rfl := Option.some.inj hl
    obtain ⟨hrunning, hpending⟩ := h.placed a nofun
    exact ⟨fun i hi => hp ((hpending i).1 hi).1, fun i hi => hr (hrunning.2 ⟨i, hi⟩)⟩

section
variable {s : State} {a : Fin 8} (h : LinesInv s (some a))
include h

/-- A line that is on its way takes another value. -/
theorem LinesInv.setLine_away {x : Line} (hx : x.Sound)
    (hb : x.enabled = true → (s.poll x.boundPoll).state ≠ .free) : LinesInv (s.setLine a x) (some a) where
  __ := h
  sound l := by
    rw [State.setLine_line]
    split
    · exact hx
    · exact h.sound l
  bound l := by
    rw [State.setLine_line]
    split
    · exact hb
    · exact h.bound l
  placed l hl := by
    have hla : l ≠ a := fun e => hl (congrArg some e.symm)
    have hline := State.setLine_line_ne s a l x hla
    obtain ⟨hrunning, hpending⟩ := h.placed l hl
    refine ⟨by rw [hline]; exact hrunning, fun i => ?_⟩
    rw [lineLane, hline]
    exact hpending i
  absent l hl := ⟨(h.absent l hl).tiers, (h.absent l hl).served⟩

/-- The line that was on its way is at rest. -/
theorem LinesInv.arrive (hp : (s.line a).state ≠ .pending) (hr : (s.line a).state ≠ .running) : LinesInv s none where
  __ := h
  placed l _ := by
    by_cases hla : l = a
    · obtain ⟨htiers, hserved⟩ := h.absent l (by rw [hla])
      rw [← hla] at hp hr
      exact ⟨iff_of_false hr fun ⟨i, hi⟩ => hserved i hi, fun i => iff_of_false (htiers i) fun hi => hp hi.1⟩
    · exact h.placed l fun e => hla (Option.some.inj e).symm
  absent := nofun

theorem LinesInv.rest {x : Line} (hx : x.Sound) (hb : x.enabled = true → (s.poll x.boundPoll).state ≠ .free)
    (hp : x.state ≠ .pending) (hr : x.state ≠ .running) : LinesInv (s.setLine a x) none :=
  (h.setLine_away hx hb).arrive (by rwa [State.setLine_line_self]) (by rwa [State.setLine_line_self])

end

section
variable {s : State} {away away' : Option (Fin 8)} (h : LinesInv s away) {i : Fin 4} {x : Lane}
include h

/-- A lane is replaced, its tier and its transaction being in order. -/
theorem LinesInv.setLane (htier : x.alertTier.Nodup) (hbusy : x.state = .busy ↔ x.txn.isSome = true)
    (honce : ∀ k, k ≠ i → ∀ l, x.servedLine = some l → (s.lane k).servedLine ≠ some l)
    (hplaced : ∀ l, away' ≠ some l → LinePlaced (s.setLane i x) l)
    (habsent : ∀ l, away' = some l → LineAbsent (s.setLane i x) l) : LinesInv (s.setLane i x) away' where
  sound := h.sound
  bound := h.bound
  placed := hplaced
  absent := habsent
  tiers k := by
    rw [State.setLane_lane]
    split
    · exact htier
    · exact h.tiers k
  busy k := by
    rw [State.setLane_lane]
    split
    · exact hbusy
    · exact h.busy k
  once k m l := by
    rw [State.setLane_lane, State.setLane_lane]
    split <;> split
    · intros; simp [*]
    · rename_i hm
      exact fun hk hm' => absurd hm' (honce m hm l hk)
    · rename_i hk _
      exact fun hk' hm => absurd hk' (honce k hk l hm)
    · exact h.once k m l
  targets := h.targets

/-- The ALERT tier of a lane is replaced. -/
theorem LinesInv.setTier {tier : List (Fin 8)} (htier : tier.Nodup)
    (hserved : ∀ l, away' ≠ some l → ((s.line l).state = .running ↔ ∃ k, (s.lane k).servedLine = some l))
    (habsent : ∀ l, away' = some l → l ∉ tier ∧ (∀ k, k ≠ i → l ∉ (s.lane k).alertTier) ∧
      ∀ k, (s.lane k).servedLine ≠ some l)
    (hmem : ∀ l, away' ≠ some l → (l ∈ tier ↔ (s.line l).state = .pending ∧ lineLane s l = i) ∧
      ∀ k, k ≠ i → (l ∈ (s.lane k).alertTier ↔ (s.line l).state = .pending ∧ lineLane s l = k)) :
    LinesInv (s.setLane i { s.lane i with alertTier := tier }) away' := by
  have hline (k : Fin 4) : ((s.setLane i { s.lane i with alertTier := tier }).lane k).servedLine =
      (s.lane k).servedLine := by
    rw [State.setLane_lane]
    split
    · rename_i hk
      rw [hk]
      rfl
    · rfl
  refine h.setLane htier (h.busy i) (fun k hk l hl hl' => hk (h.once k i l hl' hl)) (fun l hl => ⟨?_, fun k => ?_⟩)
    fun l hl => ⟨fun k => ?_, fun k => ?_⟩
  · simp only [hline]
    exact hserved l hl
  · rw [State.setLane_lane]
    split
    · rename_i hk
      rw [hk]
      exact (hmem l hl).1
    · exact (hmem l hl).2 k ‹_›
  · rw [State.setLane_lane]
    split
    · exact (habsent l hl).1
    · exact (habsent l hl).2.1 k ‹_›
  · rw [hline]
    exact (habsent l hl).2.2 k

end

/-- The line that was on its way joins the tail of the ALERT tier of its lane. -/
theorem LinesInv.join {s : State} {a : Fin 8} (h : LinesInv s (some a)) (hp : (s.line a).state = .pending) {i : Fin 4}
    (hi : lineLane s a = i) :
    LinesInv (s.setLane i { s.lane i with alertTier := (s.lane i).alertTier ++ [a] }) none := by
  obtain ⟨htiers, hserved⟩ := h.absent a rfl
  have hplaced {l : Fin 8} (hla : l ≠ a) : LinePlaced s l := h.placed l fun e => hla (Option.some.inj e).symm
  refine h.setTier ?_ (fun l _ => ?_) nofun fun l _ => ⟨?_, fun k hk => ?_⟩
  · exact List.concat_eq_append ▸ (h.tiers i).concat (htiers i)
  · by_cases hla : l = a
    · rw [hla, hp]
      exact iff_of_false nofun fun ⟨k, hk⟩ => hserved k hk
    · exact (hplaced hla).running
  · by_cases hla : l = a
    · simp [hla, hp, hi]
    · simp [hla, (hplaced hla).pending]
  · by_cases hla : l = a
    · rw [hla, hi]
      exact iff_of_false (htiers k) fun hk' => hk hk'.2.symm
    · exact (hplaced hla).pending k

/-- A PENDING line leaves the ALERT tier of its lane. -/
theorem LinesInv.leave {s : State} (h : LinesInv s none) {a : Fin 8} {i : Fin 4} {tier : List (Fin 8)}
    (ha : a ∈ (s.lane i).alertTier) (htier : tier.Nodup)
    (hmem : ∀ l, l ∈ tier ↔ l ∈ (s.lane i).alertTier ∧ l ≠ a) :
    LinesInv (s.setLane i { s.lane i with alertTier := tier }) (some a) := by
  obtain ⟨hrunning, hpending⟩ := h.placed a nofun
  obtain ⟨hp, hi⟩ := (hpending i).1 ha
  have hne {l : Fin 8} (hl : some a ≠ some l) : l ≠ a := fun e => hl (congrArg some e.symm)
  refine h.setTier htier (fun l _ => (h.placed l nofun).running) (fun l hl => ?_) fun l hl => ⟨?_, fun k _ => ?_⟩
  · obtain rfl := Option.some.inj hl
    refine ⟨fun hl => ((hmem a).1 hl).2 rfl, fun k hk hl => hk ?_, fun k hk => ?_⟩
    · exact ((hpending k).1 hl).2.symm.trans hi
    · simp [hrunning.2 ⟨k, hk⟩] at hp
  · rw [hmem, and_iff_left (hne hl)]
    exact (h.placed l nofun).pending i
  · exact (h.placed l nofun).pending k

/-- The head of an ALERT tier leaves it. -/
theorem LinesInv.leave_head {s : State} (h : LinesInv s none) {a : Fin 8} {i : Fin 4} {rest : List (Fin 8)}
    (htier : (s.lane i).alertTier = a :: rest) :
    LinesInv (s.setLane i { s.lane i with alertTier := rest }) (some a) := by
  have hnodup := h.tiers i
  rw [htier] at hnodup
  obtain ⟨hnot, hrest⟩ := List.nodup_cons.1 hnodup
  refine h.leave (by simp [htier]) hrest fun l => ?_
  rw [htier, List.mem_cons]
  constructor
  · exact fun hl => ⟨.inr hl, fun e => hnot (e ▸ hl)⟩
  · rintro ⟨rfl | hl, hne⟩
    · exact absurd rfl hne
    · exact hl

/-- A lane starts the read of the line that was on its way (R47, R84). -/
theorem LinesInv.serve {s : State} {a : Fin 8} (h : LinesInv s (some a)) (hr : (s.line a).state = .running) {i : Fin 4}
    (hrest : (s.lane i).state ≠ .busy) {x : Transaction} (hx : x.work = .alert a) :
    LinesInv (s.setLane i ((s.lane i).begin x)) none := by
  obtain ⟨htiers, hserved⟩ := h.absent a rfl
  have hnew : ((s.lane i).begin x).servedLine = some a := by rw [Lane.servedLine, Lane.begin, Option.bind_some, hx]; rfl
  have hold : (s.lane i).servedLine = none := by
    rw [Lane.servedLine, Option.not_isSome_iff_eq_none.1 (mt (h.busy i).2 hrest)]
    rfl
  have htier (k : Fin 4) : ((s.setLane i ((s.lane i).begin x)).lane k).alertTier = (s.lane k).alertTier := by
    rw [State.setLane_lane]
    split
    · rename_i hk
      rw [hk]
      rfl
    · rfl
  refine h.setLane (h.tiers i) (iff_of_true rfl rfl) (fun k _ l hl hl' => ?_) (fun l _ => ⟨?_, fun k => ?_⟩) nofun
  · rw [hnew] at hl
    exact hserved k (hl ▸ hl')
  · simp only [State.setLane_lane, State.setLane_line]
    by_cases hla : l = a
    · rw [hla, hr]
      exact iff_of_true rfl ⟨i, by rw [if_pos rfl, hnew]⟩
    · rw [(h.placed l fun e => hla (Option.some.inj e).symm).running]
      refine exists_congr fun k => ?_
      split
      · rename_i hk
        rw [hk, hold, hnew]
        exact iff_of_false nofun fun e => hla (Option.some.inj e).symm
      · rfl
  · rw [htier]
    by_cases hla : l = a
    · rw [hla]
      exact iff_of_false (htiers k) fun hk => by simp [hr] at hk
    · exact (h.placed l fun e => hla (Option.some.inj e).symm).pending k

/-- The lane that runs a line's read ends it (R55). -/
theorem LinesInv.release {s : State} (h : LinesInv s none) {a : Fin 8} {i : Fin 4}
    (ha : (s.lane i).servedLine = some a) (status : RecordStatus) :
    LinesInv (s.setLane i ((s.lane i).endTxn status)) (some a) := by
  obtain ⟨hrunning, hpending⟩ := h.placed a nofun
  have hr := hrunning.2 ⟨i, ha⟩
  have hstate : ((s.lane i).endTxn status).state ≠ .busy := by rw [Lane.endTxn_eq]; dsimp only; split <;> decide
  have htxn : ((s.lane i).endTxn status).txn = none := by rw [Lane.endTxn_eq]
  have hnew : ((s.lane i).endTxn status).servedLine = none := by rw [Lane.servedLine, htxn]; rfl
  have hsame : ((s.lane i).endTxn status).alertTier = (s.lane i).alertTier := by rw [Lane.endTxn_eq]
  have htier (k : Fin 4) : ((s.setLane i ((s.lane i).endTxn status)).lane k).alertTier = (s.lane k).alertTier := by
    rw [State.setLane_lane]
    split
    · rename_i hk
      rw [hk, hsame]
    · rfl
  refine h.setLane (hsame ▸ h.tiers i) (iff_of_false hstate (by simp [htxn])) (fun k _ l hl => ?_)
    (fun l hl => ⟨?_, fun k => ?_⟩) fun l hl => ⟨fun k => ?_, fun k => ?_⟩
  · rw [hnew] at hl
    exact absurd hl nofun
  · rw [State.setLane_line, (h.placed l nofun).running]
    refine exists_congr fun k => ?_
    rw [State.setLane_lane]
    split
    · rename_i hk
      rw [hk, hnew, ha]
      exact iff_of_false hl nofun
    · rfl
  · rw [htier]
    exact (h.placed l nofun).pending k
  · rw [htier, ← Option.some.inj hl]
    exact fun hk => by simp [hr] at hpending; exact hpending k hk
  · rw [State.setLane_lane, ← Option.some.inj hl]
    split
    · rw [hnew]
      nofun
    · rename_i hk
      exact fun hk' => hk (h.once k i a hk' ha)

end Sys2Proof.Machine

/-! PROOF. The shared operations, recoveries and the removal of jobs move no alert line, and what triggers and the ends
of reads make of the lines (R82, R85). -/

namespace Sys2Proof.Machine

/-! ### Operations that move no line: lanes, blocks, records and notices -/

theorem keepsReads_wakeLane (i : Fin 4) (s : State) : KeepsReads s (wakeLane i s) :=
  .of_lanes (by rw [wakeLane_frame]) fun k => by rw [wakeLane_gains]; exact Lane.keepsReads_gains ..

theorem keepsReads_wakeAll (s : State) : KeepsReads s (wakeAll s) :=
  .of_lanes (by rw [wakeAll_frame]) fun k => by rw [wakeAll_gains]; exact Lane.keepsReads_gains ..

theorem keepsReads_releaseIf (b : Bool) (s : State) : KeepsReads s (releaseIf b s) :=
  .of_lanes (by rw [releaseIf_frame]) fun k => by rw [releaseIf_gains]; exact Lane.keepsReads_gains ..

theorem keepsReads_releaseReservation (r : Reservation) (s : State) : KeepsReads s (releaseReservation r s) := by
  refine .of_lanes (by rw [releaseReservation_frame]) fun k => ?_
  rw [releaseReservation_lane]
  split
  · exact Lane.keepsReads_wake _
  · exact .refl _

theorem keepsReads_post (b : NoticeBody) (s : State) : KeepsReads s (post b s) := by
  rw [post_frame]
  exact .of_same rfl rfl

theorem keepsReads_makeReady (r : Reply) (s : State) : KeepsReads s (makeReady r s) := .of_same rfl rfl

theorem keepsReads_finishDrain (others : List Reply) (s : State) : KeepsReads s (finishDrain others s) := by
  rw [finishDrain_frame]
  exact .of_same rfl rfl

theorem keepsReads_endQueuedJob (j : Job) (status : RecordStatus) (s : State) :
    KeepsReads s (endQueuedJob j status s) := by
  rw [endQueuedJob]
  refine .trans ?_ (keepsReads_releaseIf ..)
  exact .of_same rfl rfl

theorem keepsReads_arbitrate (s : State) : KeepsReads s (arbitrate s) := by
  refine .of_lanes (by rw [arbitrate_frame]) fun k => ?_
  rcases arbitrate_cases s with h | ⟨_, _, h⟩ | ⟨_, _, _, _, _, h⟩ | ⟨_, _, _, _, _, _, _, h⟩ |
    ⟨_, _, _, _, _, _, _, _, h⟩ <;> rw [h]
  · exact .refl _
  · exact .refl _
  · exact .refl _
  · exact .refl _
  · rw [takeRecord_lane]
    split
    · exact Lane.keepsReads_wake _
    · exact .refl _

theorem keepsReads_afterChoice (s : State) : KeepsReads s s.afterChoice := by
  rw [afterChoice_frame]
  exact .of_same rfl rfl

theorem keepsReads_hostError (count : HostErrors → HostErrors) (one : HostErrors) (s : State) :
    KeepsReads s (hostError count one s) := by
  rw [hostError_frame]
  exact .of_same rfl rfl

/-! ### Targets (R12, R99 to R102) -/

theorem keepsReads_changeTarget (t : Fin 32) (x : Target) (s : State) : KeepsReads s (changeTarget t x s) := by
  rw [changeTarget_frame]
  exact .of_same rfl rfl

theorem keepsReads_targetOutcome (t : Fin 32) (isProbe : Bool) (status : RecordStatus) (s : State) :
    KeepsReads s (targetOutcome t isProbe status s) :=
  .of_lanes (by rw [targetOutcome_frame]) fun k => by rw [targetOutcome_gains]; exact Lane.keepsReads_gains ..

theorem keepsReads_removeProbe (t : Fin 32) (s : State) : KeepsReads s (removeProbe t s) := by
  unfold removeProbe
  dsimp only
  split
  · refine .trans ?_ (keepsReads_wakeLane ..)
    exact keepsReads_setLane (.of_same rfl rfl rfl)
  · exact .refl s

theorem keepsReads_queueProbe (t : Fin 32) (s : State) : KeepsReads s (queueProbe t s) := by
  refine .trans ?_ (keepsReads_wakeLane ..)
  refine KeepsReads.trans (t := s.setTarget t { s.target t with countdown := 0 }) (.of_same rfl rfl) ?_
  exact keepsReads_setLane (.of_same rfl rfl rfl)

theorem keepsReads_countDowns (picks : List Nat) (s : State) : KeepsReads s (countDowns picks s) :=
  (KeepsReads.foldl (f := fun u t => lowerCountdown t u) (fun _ _ => .of_same rfl rfl) _ s).trans
    (.foldl (fun u t => keepsReads_queueProbe t u) ..)

theorem keepsReads_reviveTarget (t : Fin 32) (s : State) : KeepsReads s (reviveTarget t s) := by
  unfold reviveTarget
  dsimp only
  split
  · exact .refl s
  · exact .refl s
  · exact keepsReads_changeTarget ..
  · refine .trans ?_ (keepsReads_wakeLane ..)
    exact (keepsReads_removeProbe t s).trans (keepsReads_changeTarget ..)

theorem keepsReads_quarantineTarget (t : Fin 32) (s : State) : KeepsReads s (quarantineTarget t s) := by
  unfold quarantineTarget
  dsimp only
  split
  · exact .refl s
  · exact keepsReads_changeTarget ..
  · exact keepsReads_changeTarget ..
  · refine .trans ?_ (keepsReads_removeProbe ..)
    split
    · exact .refl s
    · exact .of_same rfl rfl

/-! ### Counters (R149) -/

theorem keepsReads_clearLanes (s : State) : KeepsReads s (clearLanes s) :=
  keepsReads_mapLanes fun _ => .of_same rfl rfl rfl

theorem keepsReads_clearAlerts (s : State) : KeepsReads s (clearAlerts s) := by
  refine ⟨fun l => ?_, fun _ => .refl _⟩
  have hline : (clearAlerts s).line l = { s.line l with triggers := 0 } := Table.get_map ..
  rw [hline]
  exact ⟨id, rfl, rfl, id⟩

theorem keepsReads_clearClass (c : CounterClass) (s : State) : KeepsReads s (clearClass c s) := by
  cases c with
  | all =>
    have hentries : KeepsReads s (clearPolls (clearTargets s)) := .of_same rfl rfl
    refine KeepsReads.trans ?_
      (KeepsReads.of_same (s := clearAlerts (clearLanes (clearPolls (clearTargets s)))) rfl rfl)
    exact (hentries.trans (keepsReads_clearLanes _)).trans (keepsReads_clearAlerts _)
  | lane => exact keepsReads_clearLanes s
  | alert => exact keepsReads_clearAlerts s
  | target | poll | result | host => exact .of_same rfl rfl

/-! ### Jobs that leave a queue without a transaction (R73, R75, R77) -/

theorem keepsReads_setJobs (i : Fin 4) (jobs : List Job) (s : State) :
    KeepsReads s (s.setLane i { s.lane i with jobs := jobs }) :=
  keepsReads_setLane (.of_same rfl rfl rfl)

theorem keepsReads_submit (tag : Byte) (q : JobRequest) (s : State) : KeepsReads s (submit tag q s) := by
  rw [submit_eq]
  refine .trans (keepsReads_setLane (i := q.lane s) ?_) (.of_same rfl rfl)
  refine .trans ?_ (told_keepsReads ..)
  exact .of_same rfl rfl rfl

theorem keepsReads_cancelJob (i : Fin 4) (number : Nat) (s : State) : KeepsReads s (cancelJob i number s) := by
  unfold cancelJob
  split
  · refine .trans ?_ (keepsReads_wakeLane ..)
    refine .trans ?_ (keepsReads_endQueuedJob ..)
    exact keepsReads_setJobs ..
  · exact .refl s

theorem keepsReads_flushLane (tag : Byte) (i : Fin 4) (s : State) : KeepsReads s (flushLane tag i s) := by
  have hflush : KeepsReads s (flushJobs i s) :=
    (keepsReads_setJobs i [] s).trans (.foldl (fun u j => keepsReads_endQueuedJob j .cancelled u) ..)
  unfold flushLane
  dsimp only
  refine .trans ?_ (keepsReads_finishDrain ..)
  split
  · exact hflush
  · exact hflush.trans (keepsReads_wakeLane ..)

theorem keepsReads_drainHead (i : Fin 4) (j : Job) (rest : List Job) (s : State) :
    KeepsReads s (drainHead i j rest s) := by
  refine .trans ?_ (keepsReads_endQueuedJob ..)
  exact (keepsReads_setJobs i rest s).trans (.of_same rfl rfl)

/-! ### Recovery (R57, R60) -/

/-- A lane that is not BUSY goes to RECOVERING. -/
theorem keepsReads_recover {s : State} {i : Fin 4} (h : (s.lane i).state ≠ .busy) (fromFault : Bool) :
    KeepsReads s (s.setLane i ((s.lane i).recover fromFault)) :=
  keepsReads_setLane (.of_resting rfl rfl h nofun)

theorem keepsReads_recoveredIdle {s : State} {i : Fin 4} (h : (s.lane i).state ≠ .busy) :
    KeepsReads s (recoveredIdle i s) := by
  have hidle : KeepsReads s
      (s.setLane i { s.lane i with state := .idle, waitingResets := [], fromFault := false }) :=
    keepsReads_setLane (.of_resting rfl rfl h nofun)
  unfold recoveredIdle
  dsimp only
  refine .trans ?_ (keepsReads_wakeLane ..)
  split
  · exact hidle.trans (keepsReads_post ..)
  · exact hidle

theorem keepsReads_faultLane {s : State} {i : Fin 4} (h : (s.lane i).state ≠ .busy) (cause : FaultCause)
    (posted : LaneCause) : KeepsReads s (faultLane i cause posted s) := by
  refine .trans ?_ (keepsReads_post ..)
  exact keepsReads_setLane (.of_resting rfl rfl h nofun)

/-! ### Reports of polls and jobs (R70, R113) -/

theorem TellsLanes.keepsReads {s u : State} {held : Nat} (h : TellsLanes s u held fun _ => [])
    (hlines : u.lines = s.lines) : KeepsReads s u := by
  obtain ⟨_, _, freed, _, hlanes⟩ := h
  exact .of_lanes hlines fun k => by rw [hlanes]; exact Lane.keepsReads_gains ..

/-- The report of a transaction that is no alert read. -/
theorem keepsReads_reportOutcome {x : Transaction} (hx : x.work.alertLine = none) (held : Reservation) (f : Final)
    (s : State) : KeepsReads s (reportOutcome x held f s) := by
  unfold reportOutcome
  cases hwork : x.work with
  | poll p =>
    dsimp only
    split
    · exact keepsReads_releaseReservation ..
    · exact (tellsLanes_pollCompletion ..).keepsReads (by rw [pollCompletion_frame])
  | alert a => simp [hwork, Work.alertLine] at hx
  | job j => exact (tellsLanes_endRunningJob ..).keepsReads (by rw [endRunningJob_frame])
  | probe => exact .refl s

/-! ### Triggers and the ends of reads (R82, R85) -/

theorem Line.triggered_sound {l : Line} (h : l.Sound) (hen : l.enabled = true) : l.triggered.Sound :=
  Line.sound_of_enabled hen nofun (h.1 hen).2

section
variable {s : State} {a : Fin 8}

/-- A line that is on its way triggers, or has one more read queued (R82, R85). -/
theorem LinesInv.trigger (h : LinesInv s (some a)) (hen : (s.line a).enabled = true) :
    LinesInv (trigger a s) none := by
  have haway := h.setLine_away (Line.triggered_sound (h.sound a) hen) (h.bound a)
  have hjoin := haway.join (by rw [State.setLine_line_self]; rfl) (lineLane_setLine rfl)
  exact hjoin.of_steady (keepsReads_wakeLane ..) (steady_wakeLane ..)

/-- A line that is ARMED or in HOLDOFF triggers (R82, R86). -/
theorem LinesInv.trigger_waiting (h : LinesInv s none) (hw : (s.line a).Waiting) :
    LinesInv (Machine.trigger a s) none := by
  refine LinesInv.trigger (h.depart ?_ ?_) ((h.sound a).enabled_of_waiting hw) <;> rcases hw with hs | hs <;> simp [hs]

theorem Line.readEnded_state (l : Line) (op : OpState) :
    (l.readEnded op).state ≠ .pending ∧ (l.readEnded op).state ≠ .running := by
  unfold Line.readEnded
  split
  · exact ⟨nofun, nofun⟩
  · split
    · split <;> exact ⟨nofun, nofun⟩
    · exact ⟨nofun, nofun⟩

theorem Line.readEnded_enabled (l : Line) (op : OpState) : (l.readEnded op).enabled = l.enabled := by
  unfold Line.readEnded
  split
  · rfl
  · split
    · split <;> rfl
    · rfl

theorem Line.readEnded_boundPoll (l : Line) (op : OpState) : (l.readEnded op).boundPoll = l.boundPoll := by
  unfold Line.readEnded
  split
  · rfl
  · split
    · split <;> rfl
    · rfl

/-- The line after the end of its read: OFF if it was disabled, enabled otherwise (R85, R90). -/
theorem Line.readEnded_sound {l : Line} (h : l.Sound) (hoff : l.state ≠ .off) (op : OpState) :
    (l.readEnded op).Sound := by
  unfold Line.readEnded
  cases hc : l.closing with
  | true =>
    have hdis : l.enabled = false := by
      by_contra hen
      simp [(h.1 (by simpa using hen)).2] at hc
    exact ⟨fun hen => absurd hen (by simp [hdis]), fun _ => ⟨(h.2 hdis).1, .inl rfl⟩⟩
  | false =>
    have hen := h.enabled_of_not_closing hoff hc
    rw [if_neg nofun]
    split
    · split <;> exact Line.sound_of_enabled hen nofun rfl
    · exact Line.sound_of_enabled hen nofun rfl

/-- The line whose read has ended is moved (R85). -/
theorem LinesInv.moveLine (h : LinesInv s (some a)) (hoff : (s.line a).state ≠ .off) :
    LinesInv (moveLine a s) none := by
  unfold Machine.moveLine
  split
  · rename_i howes
    obtain ⟨hc, _⟩ := (Line.owesRead_iff ..).1 howes
    exact h.trigger ((h.sound a).enabled_of_not_closing hoff hc)
  · obtain ⟨hp, hr⟩ := (s.line a).readEnded_state s.op
    refine h.rest (Line.readEnded_sound (h.sound a) hoff _) (fun hen => ?_) hp hr
    rw [Line.readEnded_enabled] at hen
    rw [Line.readEnded_boundPoll]
    exact h.bound a hen

theorem LinesInv.settleAlert (h : LinesInv s (some a)) (hoff : (s.line a).state ≠ .off) :
    LinesInv (settleAlert a s) none := by
  refine LinesInv.moveLine ?_ hoff
  exact h.of_tables (.of_same rfl rfl) rfl rfl

/-- The end of an alert read moves its line (R85). -/
theorem LinesInv.endAlertRead (h : LinesInv s (some a)) (hoff : (s.line a).state ≠ .off) (x : Transaction) (f : Final) :
    LinesInv (endAlertRead a x f s) none := by
  let r := addRecord (alertRecord s a x.generation x.target f) s
  have hrecord : LinesInv r (some a) := h.of_tables (.of_same rfl rfl) rfl rfl
  have hframe := alertSnapshot_frame a x f r
  have hsnapshot : KeepsReads r (alertSnapshot a x f r) := .of_same (by rw [hframe]) (by rw [hframe])
  have hmoved := (hrecord.of_steady hsnapshot (steady_alertSnapshot ..)).moveLine
    (by rw [(hsnapshot.lines a).state]; exact hoff)
  exact hmoved.of_steady (keepsReads_releaseIf ..) (steady_releaseIf ..)

end

theorem Work.alertLine_eq_some {w : Work} {a : Fin 8} : w.alertLine = some a ↔ w = .alert a := by
  cases w <;> simp [Work.alertLine]

/-- The end of a transaction (R55). -/
theorem linesInv_endTransaction {s : State} (h : LinesInv s none) (i : Fin 4) (f : Final) :
    LinesInv (endTransaction i f s) none := by
  cases htxn : (s.lane i).txn with
  | none =>
    simp only [endTransaction, htxn]
    exact h
  | some x =>
    have hserved : (s.lane i).servedLine = x.work.alertLine := by rw [Lane.servedLine, htxn]; rfl
    have houtcome {away : Option (Fin 8)} (hend : LinesInv (s.setLane i ((s.lane i).endTxn f.status)) away) :
        LinesInv (beforeReport i x f s) away :=
      hend.of_steady (keepsReads_targetOutcome ..) (steady_targetOutcome ..)
    rw [endTransaction_eq htxn]
    refine LinesInv.of_steady ?_ (keepsReads_wakeLane ..) (steady_wakeLane ..)
    cases hline : x.work.alertLine with
    | none =>
      have hend := keepsReads_setLane (Lane.keepsReads_endTxn (hserved.trans hline) f.status)
      exact (houtcome (h.of_tables hend rfl rfl)).of_steady (keepsReads_reportOutcome hline ..)
        (steady_reportOutcome ..)
    | some a =>
      have hrun := (h.placed a nofun).running.2 ⟨i, hserved.trans hline⟩
      have haway := houtcome (h.release (hserved.trans hline) f.status)
      have hframe := beforeReport_frame i x f s
      rw [reportOutcome, Work.alertLine_eq_some.1 hline]
      refine haway.endAlertRead ?_ x f
      rw [State.line, hframe]
      exact fun hoff => absurd (hrun.symm.trans hoff) nofun

end Sys2Proof.Machine

/-! PROOF. Looking for work (R42 to R47), cycle starts (R15) and the Alert Unit (R79 to R93) keep lines, tiers and
running reads in agreement. -/

namespace Sys2Proof.Machine

/-! ### Several lines trigger (R82, R86, R93) -/

theorem trigger_line (a : Fin 8) (s : State) (l : Fin 8) :
    (trigger a s).line l = if l = a then (s.line l).triggered else s.line l := by
  rw [trigger_frame]
  refine (Table.get_set ..).trans ?_
  split
  · rename_i hl
    rw [hl]
  · rfl

/-- Lines that trigger one after the other (R82). -/
def triggerAll (ls : List (Fin 8)) (s : State) : State := ls.foldl (fun t l => trigger l t) s

theorem triggerAll_cons (a : Fin 8) (ls : List (Fin 8)) (s : State) :
    triggerAll (a :: ls) s = triggerAll ls (trigger a s) := rfl

/-- Lines that are ARMED or in HOLDOFF trigger one after the other. -/
theorem LinesInv.triggerAll {ls : List (Fin 8)} (hnodup : ls.Nodup) {s : State} (h : LinesInv s none)
    (hw : ∀ l ∈ ls, (s.line l).Waiting) : LinesInv (Machine.triggerAll ls s) none := by
  induction ls generalizing s with
  | nil => exact h
  | cons a ls ih =>
    obtain ⟨hnot, hrest⟩ := List.nodup_cons.1 hnodup
    refine ih hrest (h.trigger_waiting (hw a List.mem_cons_self)) fun l hl => ?_
    have hne : l ≠ a := fun e => hnot (e ▸ hl)
    rw [trigger_line, if_neg hne]
    exact hw l (List.mem_cons_of_mem _ hl)

/-! ### Cycle starts (R15) -/

theorem linesInv_scheduleCycle {s : State} (h : LinesInv s none) : LinesInv (scheduleCycle s) none := by
  have hcounted := Steady.foldl steady_countMiss ((List.finRange 4).flatMap (cycleMisses s)) s
  have hlines : KeepsReads s (scheduleCycle s) :=
    .of_lanes (by rw [scheduleCycle_frame]) fun i => by rw [scheduleCycle_lane]; exact .of_same rfl rfl rfl
  exact h.of_kept hlines (.of_entries hcounted.targets hcounted.polls)

theorem keepsReads_postCycle (picks : List Nat) (before s : State) : KeepsReads s (postCycle picks before s) := by
  rw [postCycle_frame]
  exact .of_same rfl rfl

theorem mem_holdoffLines (s : State) (active : Bool) (l : Fin 8) :
    l ∈ holdoffLines s active ↔ (s.line l).state = .holdoff ∧ (s.line l).level = active := by
  simp [holdoffLines]

theorem nodup_holdoffLines (s : State) (active : Bool) : (holdoffLines s active).Nodup :=
  (List.nodup_finRange 8).filter _

/-- An inactive line goes from HOLDOFF to ARMED (R86). -/
theorem LinesInv.armLine {s : State} (h : LinesInv s none) {l : Fin 8} (hw : (s.line l).Waiting) :
    LinesInv (armLine s l) none := by
  have hen := (h.sound l).enabled_of_waiting hw
  have haway : LinesInv s (some l) := by refine h.depart ?_ ?_ <;> rcases hw with hs | hs <;> simp [hs]
  exact haway.rest (Line.sound_of_enabled hen nofun ((h.sound l).1 hen).2) (h.bound l) nofun nofun

theorem armLine_line (s : State) (a l : Fin 8) :
    (armLine s a).line l = if l = a then { s.line l with state := .armed } else s.line l := by
  rw [armLine, State.setLine_line]
  split
  · rename_i hl
    rw [hl]
  · rfl

theorem armAll_line (ls : List (Fin 8)) (s : State) (l : Fin 8) :
    (ls.foldl armLine s).line l = if l ∈ ls then { s.line l with state := .armed } else s.line l := by
  induction ls generalizing s with
  | nil => rfl
  | cons a ls ih =>
    rw [List.foldl_cons, ih, armLine_line]
    by_cases hl : l ∈ ls <;> by_cases hla : l = a <;> simp [hl, hla]

theorem LinesInv.armAll {ls : List (Fin 8)} {s : State} (h : LinesInv s none) (hw : ∀ l ∈ ls, (s.line l).Waiting) :
    LinesInv (ls.foldl Machine.armLine s) none := by
  induction ls generalizing s with
  | nil => exact h
  | cons a ls ih =>
    refine ih (h.armLine (hw a List.mem_cons_self)) fun l hl => ?_
    rw [armLine_line]
    split
    · exact .inl rfl
    · exact hw l (List.mem_cons_of_mem _ hl)

theorem linesInv_leaveHoldoffs {s : State} (h : LinesInv s none) (picks : List Nat) :
    LinesInv (leaveHoldoffs picks s) none := by
  have hholdoff {active : Bool} {l : Fin 8} (hl : l ∈ holdoffLines s active) : (s.line l).Waiting :=
    .inr ((mem_holdoffLines ..).1 hl).1
  refine LinesInv.triggerAll ((reorder_nodup ..).2 (nodup_holdoffLines ..)) (h.armAll fun l => hholdoff) fun l hl => ?_
  rw [armAll_line]
  split
  · exact .inl rfl
  · exact hholdoff ((mem_reorder ..).1 hl)

theorem linesInv_withChoice {f : List Nat → State → State}
    (hf : ∀ picks u, LinesInv u none → LinesInv (f picks u) none) {s : State} (h : LinesInv s none) :
    LinesInv (withChoice f s) none :=
  hf _ _ (h.of_steady (keepsReads_afterChoice s) (steady_afterChoice s))

theorem linesInv_startCycle {s : State} (h : LinesInv s none) (c : Word16) : LinesInv (startCycle c s) none := by
  have hcycle : LinesInv { s with cycle := c } none := h.of_tables (.of_same rfl rfl) rfl rfl
  have hposted := linesInv_withChoice (f := fun picks => postCycle picks { s with cycle := c })
    (fun picks u hu => hu.of_steady (keepsReads_postCycle ..) (steady_postCycle ..)) (linesInv_scheduleCycle hcycle)
  have hlines := linesInv_withChoice (fun picks u hu => linesInv_leaveHoldoffs hu picks) hposted
  have hprobes := linesInv_withChoice (f := countDowns)
    (fun picks u hu => hu.of_steady (keepsReads_countDowns ..) (steady_countDowns ..)) hlines
  exact hprobes.of_steady (keepsReads_wakeAll _) (steady_wakeAll _)

/-! ### Looking for work (R42 to R47) -/

/-- Lines, tiers and running reads agree, and lane `i` runs no transaction. -/
def LinesRest (i : Fin 4) (s : State) : Prop := LinesInv s none ∧ (s.lane i).state ≠ .busy

theorem LinesRest.of_steady {i : Fin 4} {s u : State} (h : LinesRest i s) (hk : KeepsReads s u) (hs : Steady s u) :
    LinesRest i u :=
  ⟨h.1.of_steady hk hs, (hk.lanes i).resting h.2⟩

/-- The examination of a tier of lane `i` keeps the lines in their places, and the lane at rest unless it starts a
transaction. -/
def Look.KeepsLines (i : Fin 4) : Look → Prop
  | .started t => LinesInv t none
  | .settled t | .passed t => LinesRest i t

theorem Look.KeepsLines.next {i : Fin 4} {r : Look} {examine : State → Look} (hr : r.KeepsLines i)
    (hnext : ∀ u, LinesRest i u → (examine u).KeepsLines i) : (r.next examine).KeepsLines i := by
  cases r with
  | started u | settled u => exact hr
  | passed u => exact hnext u hr

/-- The claim of a block that a start makes (R107) moves no line. -/
theorem linesInv_startTransaction {i : Fin 4} {x : Transaction} {s : State}
    (h : LinesInv (s.setLane i ((s.lane i).begin x)) none) : LinesInv (startTransaction i x s) none := by
  unfold startTransaction
  dsimp only
  split
  · exact h.of_tables (.of_same rfl rfl) rfl rfl
  · exact h

section
variable {i : Fin 4} {s : State}

/-- A transaction that is no alert read starts on a lane at rest. -/
theorem LinesRest.start (h : LinesRest i s) {x : Transaction} (hx : x.work.alertLine = none) :
    LinesInv (startTransaction i x s) none := by
  have hnone : (s.lane i).txn = none := Option.not_isSome_iff_eq_none.1 (mt (h.1.busy i).2 h.2)
  refine linesInv_startTransaction (h.1.of_sameReads (fun _ => .refl _) (fun k => ?_) (.of_tables rfl rfl))
  rw [State.setLane_lane]
  split
  · rename_i hk
    rw [hk]
    exact { alertTier := rfl, servedLine := by rw [Lane.servedLine, Lane.servedLine, hnone]; exact hx
            busy := fun _ => iff_of_true rfl rfl }
  · exact (Lane.KeepsReads.refl _).toSameReads

theorem keepsLines_examineHead {x : Transaction} {close start : State → State} (h : LinesRest i s)
    (hclose : LinesRest i (close s)) (hstart : LinesInv (startTransaction i x (start s)) none) :
    (examineHead i x close start s).KeepsLines i := by
  unfold examineHead
  split
  · exact hclose
  · split
    · exact hstart
    · exact h

/-- A lane changes in what is neither its ALERT tier nor its transaction. -/
theorem LinesRest.setLane (h : LinesRest i s) {x : Lane} (hk : (s.lane i).KeepsReads x)
    (hs : (s.lane i).SameSettings x) : LinesRest i (s.setLane i x) :=
  h.of_steady (keepsReads_setLane hk) (steady_setLane hs)

theorem LinesRest.closeTier (h : LinesRest i s) (f : TierFlags → TierFlags) :
    LinesRest i (s.setLane i { s.lane i with closed := f (s.lane i).closed }) :=
  h.setLane (.of_same rfl rfl rfl) { Lane.SameSettings.refl _ with }

theorem LinesRest.lookProbe (h : LinesRest i s) : (lookProbe i s).KeepsLines i := by
  unfold Machine.lookProbe
  split
  · refine keepsLines_examineHead h (h.closeTier fun c => { c with probe := true }) (LinesRest.start ?_ rfl)
    exact h.setLane (.of_same rfl rfl rfl) { Lane.SameSettings.refl _ with }
  · exact h

/-- The head of the ALERT tier starts (R84). -/
theorem LinesRest.startRead (h : LinesRest i s) {a : Fin 8} {rest : List (Fin 8)}
    (htier : (s.lane i).alertTier = a :: rest) {x : Transaction} (hx : x.work = .alert a) :
    LinesInv (startTransaction i x (startLine a (s.setLane i { s.lane i with alertTier := rest }))) none := by
  have hp := (((h.1.placed a nofun).pending i).1 (by simp [htier])).1
  have hen := (h.1.sound a).enabled_of_pending hp
  have haway := (h.1.leave_head htier).setLine_away (x := { s.line a with state := .running })
    (Line.sound_of_enabled hen nofun ((h.1.sound a).1 hen).2) (h.1.bound a)
  refine linesInv_startTransaction (haway.serve (by rw [State.setLine_line_self]) ?_ hx)
  rw [State.setLine_lane, State.setLane_lane_self]
  exact h.2

theorem LinesRest.settleRead (h : LinesRest i s) {a : Fin 8} {rest : List (Fin 8)}
    (htier : (s.lane i).alertTier = a :: rest) :
    LinesRest i (settleAlert a (s.setLane i { s.lane i with alertTier := rest })) := by
  have hp := (((h.1.placed a nofun).pending i).1 (by simp [htier])).1
  have hoff : (s.line a).state ≠ .off := by simp [hp]
  refine ⟨(h.1.leave_head htier).settleAlert hoff, ?_⟩
  unfold Machine.settleAlert
  dsimp only
  rw [moveLine_gains]
  change ((s.setLane i { s.lane i with alertTier := rest }).lane i).state ≠ .busy
  rw [State.setLane_lane_self]
  exact h.2

theorem LinesRest.lookAlert (h : LinesRest i s) : (lookAlert i s).KeepsLines i := by
  unfold Machine.lookAlert
  split
  · rename_i a rest _ htier
    dsimp only
    split
    · split
      · exact h.settleRead htier
      · exact h
    · exact keepsLines_examineHead h (h.closeTier fun c => { c with alert := true }) (h.startRead htier rfl)
  · exact h

theorem keepsReads_setWorkList (i : Fin 4) (ps : List (Fin 48)) (s : State) :
    KeepsReads s (s.setLane i { s.lane i with workList := ps }) :=
  keepsReads_setLane (.of_same rfl rfl rfl)

theorem keepsReads_skipQuarantined (i : Fin 4) (ps : List (Fin 48)) (s : State) :
    KeepsReads s (skipQuarantined i ps s) := by
  induction ps generalizing s with
  | nil => exact .refl s
  | cons p rest ih =>
    unfold skipQuarantined
    split
    · refine .trans ?_ (ih _)
      refine .trans ?_ (keepsReads_post ..)
      exact (keepsReads_setWorkList i rest s).trans (.of_same rfl rfl)
    · exact .refl s

theorem LinesRest.lookPoll (h : LinesRest i s) : (lookPoll i s).KeepsLines i := by
  unfold Machine.lookPoll
  split
  · rename_i hlist
    exact keepsLines_examineHead h (h.closeTier fun c => { c with schedule := true })
      (LinesRest.start (h.of_steady (keepsReads_setWorkList ..) (steady_setWorkList hlist)) rfl)
  · exact h

theorem LinesRest.lookSchedule (h : LinesRest i s) : (lookSchedule i s).KeepsLines i := by
  unfold Machine.lookSchedule
  split
  · exact h
  · exact (h.of_steady (keepsReads_skipQuarantined ..) (steady_skipQuarantined i rfl)).lookPoll

theorem LinesRest.lookJob (h : LinesRest i s) : (lookJob i s).KeepsLines i := by
  have hrest (jobs : List Job) : LinesRest i (s.setLane i { s.lane i with jobs := jobs }) :=
    h.setLane (.of_same rfl rfl rfl) { Lane.SameSettings.refl _ with }
  unfold Machine.lookJob
  split
  · split
    · split
      · exact (hrest _).of_steady (keepsReads_endQueuedJob ..) (steady_endQueuedJob ..)
      · exact h
    · exact keepsLines_examineHead h (h.closeTier fun c => { c with job := true }) (LinesRest.start (hrest _) rfl)
  · exact h

theorem LinesRest.lookOnce (h : LinesRest i s) : (lookOnce i s).KeepsLines i :=
  (((h.lookProbe).next fun _ => LinesRest.lookAlert).next fun _ => LinesRest.lookSchedule).next
    fun _ => LinesRest.lookJob

theorem LinesRest.lookPasses (h : LinesRest i s) (fuel : Nat) : LinesInv (lookPasses i fuel s) none := by
  induction fuel generalizing s with
  | zero => exact h.1
  | succ fuel ih =>
    have honce := h.lookOnce
    unfold Machine.lookPasses
    split <;> rename_i t ht <;> rw [ht] at honce
    · exact honce
    · exact ih honce
    · exact honce.1

theorem LinesRest.look (h : LinesRest i s) : LinesInv (look i s) none :=
  (h.lookPasses _).of_tables (keepsReads_setLane (.of_same rfl rfl rfl)) rfl rfl

end

/-! ### The Alert Unit (R79 to R93) -/

/-- The line that the disable form turns off (R90). -/
def Line.turnedOff (l : Line) : Line := { l.disabled with state := .off, extraEdges := 0 }

theorem Line.turnedOff_sound (l : Line) : l.turnedOff.Sound := ⟨nofun, fun _ => ⟨rfl, .inl rfl⟩⟩

/-! What the disable form does by the State of the line (R90). -/

theorem disableLine_off {l : Fin 8} {s : State} (h : (s.line l).state = .off) : disableLine l s = s := by
  simp only [disableLine, h]

theorem disableLine_waiting {l : Fin 8} {s : State} (h : (s.line l).state = .armed ∨ (s.line l).state = .holdoff) :
    disableLine l s = s.setLine l (s.line l).turnedOff := by
  rcases h with h | h <;> simp only [disableLine, h] <;> rfl

theorem disableLine_pending {l : Fin 8} {s : State} (h : (s.line l).state = .pending) :
    disableLine l s = removeAlertRead l (s.setLine l (s.line l).turnedOff) := by
  simp only [disableLine, h]
  rfl

theorem disableLine_running {l : Fin 8} {s : State} (h : (s.line l).state = .running) :
    disableLine l s = s.setLine l { (s.line l).disabled with state := .running, closing := true } := by
  simp only [disableLine, Line.disabled, h]

theorem mem_evaluatedLines (s : State) (l : Fin 8) :
    l ∈ evaluatedLines s ↔ (s.line l).enabled = true ∧ (s.line l).mode = .level ∧ (s.line l).state = .armed ∧
      (s.line l).level = true := by
  simp [evaluatedLines, and_assoc]

theorem nodup_evaluatedLines (s : State) : (evaluatedLines s).Nodup := (List.nodup_finRange 8).filter _

section
variable {s : State} (h : LinesInv s none)
include h

/-- The filter of an enabled line takes a level (R80, R82, R83). -/
theorem linesInv_takeLevel {l : Fin 8} (hen : (s.line l).enabled = true) : LinesInv (takeLevel l s) none := by
  have hclosing := ((h.sound l).1 hen).2
  have hoff := ((h.sound l).1 hen).1
  have hlevel := keepsReads_setLine (s := s) (l := l) (x := { s.line l with level := inputActive s l })
    ⟨id, rfl, rfl, fun _ => Line.sound_of_enabled hen hoff hclosing⟩
  have hset := h.of_steady hlevel (steady_setLine ..)
  unfold takeLevel activeEdge
  dsimp only
  split
  · split
    · rename_i harmed
      exact hset.trigger_waiting (.inl harmed.1)
    · split
      · refine hset.of_steady (keepsReads_setLine ?_) (steady_setLine ..)
        exact ⟨id, rfl, rfl, id⟩
      · exact hset
  · exact hset

/-- The enable form arms a line that is neither PENDING nor RUNNING (R89). -/
theorem linesInv_enableLine {q : AlertRequest} (hp : (s.line q.line).state ≠ .pending)
    (hr : (s.line q.line).state ≠ .running) (hpoll : (s.poll q.boundPoll).state ≠ .free) :
    LinesInv (enableLine q s) none := by
  have harmed := (h.depart hp hr).rest (x := (s.line q.line).armedWith q (s.alertPins.get q.line))
    (Line.sound_of_enabled rfl nofun rfl) (fun _ => hpoll) nofun nofun
  unfold enableLine levelTrigger
  split
  · rename_i hlevel
    exact harmed.trigger_waiting (.inl hlevel.2.2.1)
  · exact harmed

/-- The disable form of a PENDING line takes its read from the tier of its lane (R90). -/
theorem linesInv_removeAlertRead {l : Fin 8} (hp : (s.line l).state = .pending) :
    LinesInv (removeAlertRead l (s.setLine l (s.line l).turnedOff)) none := by
  have hmem := ((h.placed l nofun).pending (lineLane s l)).2 ⟨hp, rfl⟩
  have haway := h.leave (tier := (s.lane (lineLane s l)).alertTier.filter (· != l)) hmem ((h.tiers _).filter _)
    fun k => by simp
  have hrest := haway.rest (s.line l).turnedOff_sound nofun nofun nofun
  unfold removeAlertRead
  dsimp only
  rw [lineLane_setLine (x := (s.line l).turnedOff) rfl]
  exact LinesInv.of_steady hrest (keepsReads_wakeLane ..) (steady_wakeLane ..)

theorem linesInv_disableLine (l : Fin 8) : LinesInv (disableLine l s) none := by
  have hoff (hp : (s.line l).state ≠ .pending) (hr : (s.line l).state ≠ .running) :
      LinesInv (s.setLine l (s.line l).turnedOff) none :=
    (h.depart hp hr).rest (s.line l).turnedOff_sound nofun nofun nofun
  cases hs : (s.line l).state with
  | off => rwa [disableLine_off hs]
  | armed =>
    rw [disableLine_waiting (.inl hs)]
    exact hoff (by simp [hs]) (by simp [hs])
  | holdoff =>
    rw [disableLine_waiting (.inr hs)]
    exact hoff (by simp [hs]) (by simp [hs])
  | pending =>
    rw [disableLine_pending hs]
    exact linesInv_removeAlertRead h hs
  | running =>
    rw [disableLine_running hs]
    refine h.of_steady (keepsReads_setLine ?_) (steady_setLine ..)
    exact ⟨nofun, rfl, hs.symm, fun _ => ⟨nofun, fun _ => ⟨rfl, .inr ⟨rfl, rfl⟩⟩⟩⟩

theorem linesInv_evaluateLines (picks : List Nat) : LinesInv (evaluateLines picks s) none := by
  have howed : LinesInv { s with evaluationOwed := false } none := h.of_tables (.of_same rfl rfl) rfl rfl
  refine LinesInv.triggerAll ((reorder_nodup ..).2 (nodup_evaluatedLines s)) howed fun l hl => ?_
  exact .inl ((mem_evaluatedLines ..).1 ((mem_reorder ..).1 hl)).2.2.1

end

end Sys2Proof.Machine

/-! PROOF. What the Host Port and the Command Decoder do to a property of the targets, polls, lanes and lines (R130 to
R134, R142): nothing but what an admitted command does. -/

namespace Sys2Proof.Machine

/-- The property speaks of the targets, polls, lanes and lines only. -/
def OfTables (P : State → Prop) : Prop :=
  ∀ s u : State, P s → u.targets = s.targets → u.polls = s.polls → u.lanes = s.lanes → u.lines = s.lines → P u

/-- Whatever state a happening answers has the property. -/
def Answers (P : State → Prop) (o : Host.Outcome State Fault Refusal) : Prop := ∀ t, o = .next t → P t

section
variable {P : State → Prop}

theorem Answers.next {u : State} (h : P u) : Answers P (.next u) := by
  rintro t ⟨⟩
  exact h

theorem Answers.ite {c : Prop} [Decidable c] {a b : Host.Outcome State Fault Refusal} (ha : c → Answers P a)
    (hb : Answers P b) : Answers P (if c then a else b) := by
  split
  · exact ha ‹_›
  · exact hb

/-- An event of a BUSY lane with its transaction (R55). -/
theorem Answers.onTransaction {i : Fin 4} {s : State} {k : Transaction → Host.Outcome State Fault Refusal} (h : P s)
    (hk : ∀ x, (s.lane i).txn = some x → Answers P (k x)) : Answers P (onTransaction i s k) := by
  unfold Machine.onTransaction
  split
  · rename_i hx
    exact hk _ hx
  · exact .next h

variable (hP : OfTables P)
include hP

theorem OfTables.makeReady {s : State} (h : P s) (r : Reply) : P (makeReady r s) := hP _ _ h rfl rfl rfl rfl

theorem OfTables.hostError {s : State} (h : P s) (count : HostErrors → HostErrors) (one : HostErrors) :
    P (hostError count one s) := by
  rw [hostError_frame]
  exact hP _ _ h rfl rfl rfl rfl

theorem OfTables.refuse {s : State} (h : P s) (kind tag : Byte) (status : ReplyStatus) :
    P (refuse kind tag status s) := by
  unfold Machine.refuse
  split
  · exact hP.makeReady h _
  · exact hP.hostError h _ _

/-- A command that fails a check changes no table (R143). -/
theorem OfTables.carryOut {α : Type} {tag kind : Byte} {checked : Checked α} {effect : α → State → State} {s : State}
    (h : P s) (heffect : ∀ a, checked = .ok a → P (effect a s)) : P (carryOut tag kind checked effect s) := by
  cases checked with
  | error status => exact hP.makeReady h _
  | ok a => exact heffect a rfl

theorem OfTables.admission {effect : State → State} (heffect : ∀ u, P u → P (effect u)) {s : State} (h : P s)
    (kind tag : Byte) : P (admission kind tag effect s) := by
  rcases admission_cases kind tag effect s with ⟨_, _, _, hadm⟩ | ⟨status, _, href⟩
  · rw [hadm]
    exact heffect _ (hP _ _ h rfl rfl rfl rfl)
  · rw [href]
    exact hP.refuse h _ _ _

variable (hcommand : ∀ {kind : Byte} {run : Byte → List Byte → State → State}, commandOf kind = some run →
  ∀ tag body u, P u → P (run tag body u))
include hcommand

theorem OfTables.runFrame {s : State} (h : P s) (kind tag : Byte) (body : List Byte) :
    P (runFrame kind tag body s) := by
  unfold Machine.runFrame
  split
  · rename_i hkind
    exact hcommand hkind _ _ _ h
  · exact hP.makeReady h _

theorem OfTables.judge {s : State} (h : P s) (frame : List Byte) : P (judge frame s) := by
  have hhunt : P (toHunt s) := hP _ _ h rfl rfl rfl rfl
  unfold Machine.judge
  dsimp only
  split
  · split
    · exact hP.admission (fun u hu => hP.runFrame hcommand hu _ _ _) hhunt _ _
    · exact hhunt
  · exact hP.hostError hhunt _ _

/-- A byte that is received (R130). -/
theorem OfTables.takeByte {s : State} (h : P s) (b : Byte) : P (takeByte b s) := by
  have hreceiver (r : Receiver) : P { s with receiver := r } := hP _ _ h rfl rfl rfl rfl
  unfold Machine.takeByte
  split
  · split
    · exact hreceiver _
    · exact h
  · split
    · exact hreceiver _
    · exact hP.hostError (hreceiver _) _ _
  · split
    · exact hreceiver _
    · exact hreceiver _
  · split
    · exact hP.judge hcommand h _
    · exact hreceiver _

variable (harbitrate : ∀ u, P u → P (arbitrate u))
include harbitrate

/-- A frame of a command that the decoder knows (R130, 12.2). -/
theorem OfTables.hostCommand {s : State} (h : P s) {kind : Byte} {run : Byte → List Byte → State → State}
    (hkind : commandOf kind = some run) (tag : Byte) (body : List Byte) :
    Answers P (hostCommand kind tag (run tag body) s) := by
  refine .ite (fun _ => .next (harbitrate _ (hP.admission (fun u hu => hcommand hkind tag body u hu) ?_ kind tag)))
    (.next h)
  exact hP _ _ h rfl rfl rfl rfl

/-- Every command of the host, with any operands (12.2). -/
theorem OfTables.exec_hostFrame {s : State} (h : P s) {c : Instr} {kind tag : Byte} {body : List Byte}
    (hframe : c.hostFrame = some (kind, tag, body)) : Answers P (exec c s) := by
  cases c <;> cases hframe
  case ping => exact hP.hostCommand hcommand harbitrate h (kind := 0x01) rfl _ _
  case getStatus => exact hP.hostCommand hcommand harbitrate h (kind := 0x02) rfl _ _
  case clearCounters => exact hP.hostCommand hcommand harbitrate h (kind := 0x03) rfl _ _
  case reset => exact hP.hostCommand hcommand harbitrate h (kind := 0x04) rfl _ _
  case start => exact hP.hostCommand hcommand harbitrate h (kind := 0x05) rfl _ _
  case stop => exact hP.hostCommand hcommand harbitrate h (kind := 0x06) rfl _ _
  case setCycle => exact hP.hostCommand hcommand harbitrate h (kind := 0x07) rfl _ _
  case definePoll => exact hP.hostCommand hcommand harbitrate h (kind := 0x08) rfl _ _
  case deletePoll => exact hP.hostCommand hcommand harbitrate h (kind := 0x09) rfl _ _
  case setPollStatePause | setPollStateResume => exact hP.hostCommand hcommand harbitrate h (kind := 0x0A) rfl _ _
  case readPoll => exact hP.hostCommand hcommand harbitrate h (kind := 0x0B) rfl _ _
  case setLane => exact hP.hostCommand hcommand harbitrate h (kind := 0x0C) rfl _ _
  case readLane => exact hP.hostCommand hcommand harbitrate h (kind := 0x0D) rfl _ _
  case laneReset => exact hP.hostCommand hcommand harbitrate h (kind := 0x0E) rfl _ _
  case bindTarget => exact hP.hostCommand hcommand harbitrate h (kind := 0x0F) rfl _ _
  case unbindTarget => exact hP.hostCommand hcommand harbitrate h (kind := 0x10) rfl _ _
  case readTarget => exact hP.hostCommand hcommand harbitrate h (kind := 0x11) rfl _ _
  case setTargetStateRevive | setTargetStateQuarantine =>
    exact hP.hostCommand hcommand harbitrate h (kind := 0x12) rfl _ _
  case submit => exact hP.hostCommand hcommand harbitrate h (kind := 0x13) rfl _ _
  case cancel => exact hP.hostCommand hcommand harbitrate h (kind := 0x14) rfl _ _
  case flushLane => exact hP.hostCommand hcommand harbitrate h (kind := 0x15) rfl _ _
  case setAlertEnable | setAlertDisable => exact hP.hostCommand hcommand harbitrate h (kind := 0x16) rfl _ _
  case readAlert => exact hP.hostCommand hcommand harbitrate h (kind := 0x17) rfl _ _
  case grant => exact hP.hostCommand hcommand harbitrate h (kind := 0x18) rfl _ _

end

/-- A property that every happening of the queue's front keeps is kept by every step. -/
theorem step_answers {P : State → Prop} (hpending : ∀ s q, P s → P { s with pending := q })
    (hexec : ∀ c s, P s → Answers P (exec c s)) {s t : State} (h : P s) (hstep : step s = .next t) : P t := by
  unfold step at hstep
  split at hstep
  · exact hexec _ _ (hpending _ _ h) t hstep
  · exact Answers.next h t hstep

end Sys2Proof.Machine

/-! PROOF. The invariant of the alert lines (R79, R81, R26) at every command and event, and its step lemma. -/

namespace Sys2Proof.Machine

/-- Every line is in its place (R81). -/
abbrev LinesHold (s : State) : Prop := LinesInv s none

theorem linesInv_ofTables : OfTables LinesHold :=
  fun _ _ h htargets hpolls hlanes hlines => h.of_tables (.of_same hlines hlanes) htargets hpolls

theorem linesInv_arbitrate {s : State} (h : LinesInv s none) : LinesInv (arbitrate s) none :=
  h.of_steady (keepsReads_arbitrate s) (steady_arbitrate s)

/-! ### Targets and polls that are replaced (R3 to R6, R23 to R27) -/

/-- An entry to which no defined poll refers may change as it likes (R5). -/
theorem keepsBoundPolls_setTarget {s : State} {t : Fin 32} (x : Target)
    (hunused : ∀ p, (s.poll p).state ≠ .free → (s.target (s.poll p).defn.target).state ≠ .free →
      (s.poll p).defn.target ≠ t) : KeepsBoundPolls s (s.setTarget t x) where
  bound l _ hdefined := by
    refine ⟨hdefined, fun hbound => ?_⟩
    rw [pollLane, State.setTarget_poll, State.setTarget_target_ne _ _ _ _ (hunused _ hdefined hbound)]
    rfl
  targets h p hdefined := by
    rw [State.setTarget_poll] at hdefined ⊢
    rw [State.setTarget_target_ne _ _ _ _ (hunused p hdefined (h p hdefined))]
    exact h p hdefined

theorem LinesInv.changeTarget {s : State} (h : LinesInv s none) {t : Fin 32} (x : Target)
    (hunused : ∀ p, (s.poll p).state ≠ .free → (s.target (s.poll p).defn.target).state ≠ .free →
      (s.poll p).defn.target ≠ t) : LinesInv (changeTarget t x s) none := by
  have hset : LinesInv (s.setTarget t x) none :=
    h.of_kept (.of_same rfl rfl) (keepsBoundPolls_setTarget x hunused)
  rw [changeTarget_frame]
  exact hset.of_tables (.of_same rfl rfl) rfl rfl

/-- A poll entry is replaced: where an enabled line is bound to it, it stays defined and on its lane (R23, R26). -/
theorem keepsBoundPolls_setPoll {s : State} {p : Fin 48} {x : Poll} {lanes : Table Lane 4}
    (hbound : alertBound s p = true → (s.poll p).state ≠ .free →
      x.state ≠ .free ∧ (s.target x.defn.target).lane = pollLane s p)
    (htarget : ((s.poll p).state ≠ .free → (s.target (s.poll p).defn.target).state ≠ .free) → x.state ≠ .free →
      (s.target x.defn.target).state ≠ .free) :
    KeepsBoundPolls s { s with polls := s.polls.set p x, lanes := lanes } := by
  have hpoll (q : Fin 48) : ({ s with polls := s.polls.set p x, lanes := lanes } : State).poll q =
      if q = p then x else s.poll q := Table.get_set ..
  refine ⟨fun l hen hdefined => ?_, fun h q hdefined => ?_⟩
  · rw [pollLane, hpoll]
    by_cases hq : (s.line l).boundPoll = p
    · rw [if_pos hq]
      rw [hq] at hdefined ⊢
      obtain ⟨hx, hlane⟩ := hbound ((alertBound_iff s p).2 ⟨l, hen, hq⟩) hdefined
      exact ⟨hx, fun _ => hlane⟩
    · rw [if_neg hq]
      exact ⟨hdefined, fun _ => rfl⟩
  · rw [hpoll] at hdefined ⊢
    by_cases hq : q = p
    · rw [if_pos hq] at hdefined ⊢
      exact htarget (h p) hdefined
    · rw [if_neg hq] at hdefined ⊢
      exact h q hdefined

/-- What an accepted DEFINE_POLL leaves to a line bound to the entry (R23 check 4). -/
theorem checkDefinePoll_bound {body : List Byte} {s : State} {q : PollRequest} (h : checkDefinePoll body s = .ok q) :
    q.initial ≠ .free ∧ (alertBound s q.poll = true → (s.target q.defn.target).lane = pollLane s q.poll) := by
  unfold checkDefinePoll at h
  split at h
  · split at h
    · split at h
      · rename_i r hr
        obtain ⟨_, _, _, _, _, _, _, _, _, _, hinitial⟩ := decodePoll_eq_some hr
        unfold checkPollRefs at h
        split_ifs at h with _ _ hlane
        cases h
        exact ⟨(initialStateField_eq_some.1 hinitial).2, fun hb => not_not.1 fun hne => hlane ⟨hb, hne⟩⟩
      · cases h
    · cases h
  · cases h

theorem checkDeletePoll_ok {body : List Byte} {s : State} {p : Fin 48} (h : checkDeletePoll body s = .ok p) :
    alertBound s p = false := by
  unfold checkDeletePoll at h
  split at h
  · cases h
  · split_ifs at h with _ hbound
    cases h
    simpa using hbound

/-- What an accepted enable form has passed (R88 check 4). -/
theorem checkSetAlert_enable_ok {body : List Byte} {s : State} {q : AlertRequest}
    (h : checkSetAlert body s = .ok (.inl q)) :
    (s.poll q.boundPoll).state ≠ .free ∧ (s.line q.line).state ≠ .pending ∧ (s.line q.line).state ≠ .running := by
  unfold checkSetAlert at h
  split at h
  · split at h
    · split at h
      · cases h
      · split at h
        · unfold checkAlertRefs at h
          split_ifs at h with hfree hbusy
          · cases h
          · cases h
          · cases h
            exact ⟨hfree, not_or.1 hbusy⟩
        · cases h
      · cases h
    · cases h
  · cases h

/-! ### STOP and resets (R93, R152, R155) -/

theorem Line.stopped_enabled (l : Line) : l.stopped.enabled = l.enabled := by
  unfold Line.stopped
  split <;> rfl

theorem Line.stopped_boundPoll (l : Line) : l.stopped.boundPoll = l.boundPoll := by
  unfold Line.stopped
  split <;> rfl

theorem Line.stopped_running (l : Line) : l.stopped.state = .running ↔ l.state = .running := by
  unfold Line.stopped
  split <;> simp_all

theorem Line.stopped_not_pending (l : Line) : l.stopped.state ≠ .pending := by
  unfold Line.stopped
  split <;> simp_all

/-- A line that STOP takes out of PENDING or HOLDOFF is ARMED (R93). -/
theorem Line.stopped_sound {l : Line} (h : l.Sound) : l.stopped.Sound := by
  unfold Line.stopped
  split <;> rename_i hs
  · have hen := h.enabled_of_state (by simp [hs]) (by simp [hs])
    exact Line.sound_of_enabled hen nofun (h.1 hen).2
  · have hen := h.enabled_of_state (by simp [hs]) (by simp [hs])
    exact Line.sound_of_enabled hen nofun (h.1 hen).2
  · exact h
  · exact h
  · exact h

/-- The part at STOP (R155), before the end of DRAINING is checked. -/
def stoppedPart (tag : Byte) (s : State) : State :=
  { s with op := .draining
           stopTag := some tag
           drainCancelled := 0
           evaluationOwed := false
           targets := Table.ofFn (stoppedTarget s)
           lanes := s.lanes.map Lane.stopped
           lines := s.lines.map Line.stopped }

theorem linesInv_stoppedPart {s : State} (h : LinesInv s none) (tag : Byte) : LinesInv (stoppedPart tag s) none := by
  have hline (l : Fin 8) : (stoppedPart tag s).line l = (s.line l).stopped := Table.get_map ..
  have hlane (i : Fin 4) : (stoppedPart tag s).lane i = (s.lane i).stopped := Table.get_map ..
  have htarget (t : Fin 32) : (stoppedPart tag s).target t = stoppedTarget s t := Table.get_ofFn ..
  have hserved (i : Fin 4) : ((stoppedPart tag s).lane i).servedLine = (s.lane i).servedLine := by rw [hlane]; rfl
  refine { sound := fun l => hline l ▸ Line.stopped_sound (h.sound l), bound := fun l hen => ?_
           placed := fun l _ => ⟨?_, fun i => ?_⟩, absent := nofun, tiers := fun i => ?_
           busy := fun i => hlane i ▸ h.busy i, once := fun i k l => ?_, targets := fun p hp => ?_ }
  · rw [hline, Line.stopped_enabled] at hen
    rw [hline, Line.stopped_boundPoll]
    exact h.bound l hen
  · simp only [hline, Line.stopped_running, hserved]
    exact (h.placed l nofun).running
  · rw [hlane, hline]
    exact iff_of_false List.not_mem_nil fun hp => (s.line l).stopped_not_pending hp.1
  · rw [hlane]
    exact List.nodup_nil
  · rw [hserved, hserved]
    exact h.once i k l
  · rw [htarget]
    exact mt (Target.sameBinding_stopped s _).free.1 (h.targets p hp)

/-- Right after a reset every line is OFF (R152). -/
theorem linesInv_of_reset {u : State} (hlines : u.lines = State.reset.lines) (hlanes : u.lanes = State.reset.lanes)
    (hpolls : u.polls = State.reset.polls) : LinesInv u none := by
  have hline (l : Fin 8) : u.line l = Line.afterReset := by rw [State.line, hlines]; exact Table.get_replicate ..
  have hlane (i : Fin 4) : u.lane i = Lane.afterReset := by rw [State.lane, hlanes]; exact Table.get_replicate ..
  have hpoll (p : Fin 48) : u.poll p = Poll.free 0 := by rw [State.poll, hpolls]; exact Table.get_replicate ..
  refine { sound := fun l => hline l ▸ ⟨nofun, fun _ => ⟨rfl, .inl rfl⟩⟩, bound := fun l hen => ?_
           placed := fun l _ => ⟨?_, fun i => ?_⟩, absent := nofun, tiers := fun i => hlane i ▸ List.nodup_nil
           busy := fun i => hlane i ▸ iff_of_false nofun nofun, once := fun i k l hi => ?_
           targets := fun p hp => ?_ }
  · rw [hline] at hen
    cases hen
  · simp only [hline, hlane]
    exact iff_of_false nofun fun ⟨_, hi⟩ => nomatch hi
  · rw [hlane, hline]
    exact iff_of_false List.not_mem_nil fun hp => nomatch hp.1
  · rw [hlane] at hi
    cases hi
  · rw [hpoll] at hp
    exact absurd rfl hp

/-! ### Admitted commands (R142) -/

section
variable {s : State} (h : LinesInv s none) (tag : Byte) (body : List Byte)
include h

theorem linesInv_makeReady (r : Reply) : LinesInv (makeReady r s) none := linesInv_ofTables.makeReady h r

theorem linesInv_carryOut {α : Type} {kind : Byte} {checked : Checked α} {effect : α → State → State}
    (heffect : ∀ a, checked = .ok a → LinesInv (effect a s) none) :
    LinesInv (carryOut tag kind checked effect s) none :=
  linesInv_ofTables.carryOut h heffect

theorem linesInv_carryOut_of_steady {α : Type} {kind : Byte} {checked : Checked α} {effect : α → State → State}
    (hreads : ∀ a, KeepsReads s (effect a s)) (hsteady : ∀ a, Steady s (effect a s)) :
    LinesInv (carryOut tag kind checked effect s) none :=
  linesInv_carryOut h tag fun a _ => h.of_steady (hreads a) (hsteady a)

theorem linesInv_runBindTarget : LinesInv (runBindTarget tag body s) none := by
  refine linesInv_carryOut h tag fun a ha => linesInv_makeReady (h.changeTarget _ fun p _ hbound htarget => ?_) _
  exact hbound (htarget ▸ (checkBindTarget_ok ha).1)

theorem linesInv_runUnbindTarget : LinesInv (runUnbindTarget tag body s) none := by
  refine linesInv_carryOut h tag fun t ht => linesInv_makeReady ?_ _
  have hunused := checkUnbindTarget_ok ht
  have hprobe := h.of_steady (keepsReads_removeProbe t s) (steady_removeProbe t s)
  refine hprobe.changeTarget _ fun p hdefined _ htarget => ?_
  have hpoll : (removeProbe t s).poll p = s.poll p := by rw [removeProbe_frame]; rfl
  rw [hpoll] at hdefined htarget
  rw [(targetInUse_iff s t).2 (.inl ⟨p, hdefined, htarget⟩)] at hunused
  cases hunused

theorem linesInv_runStart : LinesInv (runStart tag body s) none := by
  refine linesInv_carryOut h tag fun _ _ => linesInv_makeReady (linesInv_startCycle ?_ 0) _
  exact h.of_tables (.of_same rfl rfl) rfl rfl

theorem linesInv_runStop : LinesInv (runStop tag body s) none :=
  linesInv_carryOut h tag fun _ _ =>
    (linesInv_stoppedPart h tag).of_steady (keepsReads_finishDrain ..) (steady_finishDrain ..)

theorem linesInv_runSetCycle : LinesInv (runSetCycle tag body s) none := by
  refine linesInv_carryOut h tag fun n _ => linesInv_makeReady ?_ _
  have hlanes : KeepsReads s { s with lanes := s.lanes.map fun l => l.withInterval n } :=
    keepsReads_mapLanes fun _ => .of_same rfl rfl rfl
  exact h.of_tables ⟨hlanes.lines, hlanes.lanes⟩ rfl rfl

/-- A poll entry is replaced, and lanes keep their reads (R23 to R27). -/
theorem LinesInv.setPoll {p : Fin 48} {x : Poll} {lanes : Table Lane 4}
    (hlanes : ∀ i, (s.lane i).KeepsReads (lanes.get i))
    (hbound : alertBound s p = true → (s.poll p).state ≠ .free →
      x.state ≠ .free ∧ (s.target x.defn.target).lane = pollLane s p)
    (htarget : ((s.poll p).state ≠ .free → (s.target (s.poll p).defn.target).state ≠ .free) → x.state ≠ .free →
      (s.target x.defn.target).state ≠ .free) :
    LinesInv { s with polls := s.polls.set p x, lanes := lanes } none :=
  h.of_kept (.of_lanes rfl hlanes) (keepsBoundPolls_setPoll hbound htarget)

theorem linesInv_runDefinePoll : LinesInv (runDefinePoll tag body s) none := by
  refine linesInv_carryOut h tag fun q hq => ?_
  obtain ⟨hinitial, hlane⟩ := checkDefinePoll_bound hq
  have hdefined := LinesInv.setPoll h (p := q.poll) (x := (s.poll q.poll).defined q)
    (keepsReads_mapLanes (definitionEnded_keepsReads s q.poll)).lanes (fun hbound _ => ⟨hinitial, hlane hbound⟩)
    fun _ _ => (checkDefinePoll_ok hq).2
  rw [definePoll_eq]
  exact linesInv_makeReady hdefined _

theorem linesInv_runDeletePoll : LinesInv (runDeletePoll tag body s) none := by
  refine linesInv_carryOut h tag fun p hp => ?_
  have hdeleted := LinesInv.setPoll h (p := p) (x := Poll.free (s.poll p).generation)
    (keepsReads_mapLanes (definitionEnded_keepsReads s p)).lanes
    (fun hbound => absurd hbound (by simp [checkDeletePoll_ok hp])) fun _ hfree => absurd rfl hfree
  rw [deletePoll, unlistPoll_markDefinitionEnd]
  exact linesInv_makeReady hdeleted _

theorem linesInv_runSetPollState : LinesInv (runSetPollState tag body s) none := by
  refine linesInv_carryOut h tag fun a ha => ?_
  have hdefined := checkSetPollState_ok ha
  have hset {st : PollState} (hst : st ≠ .free) {lanes : Table Lane 4}
      (hlanes : ∀ i, (s.lane i).KeepsReads (lanes.get i)) :
      LinesInv { s with polls := s.polls.set a.1 { s.poll a.1 with state := st }, lanes := lanes } none :=
    LinesInv.setPoll h hlanes (fun _ _ => ⟨hst, rfl⟩) fun htarget _ => htarget hdefined
  split
  · have hresumed := hset (st := .active) nofun (lanes := s.lanes) fun _ => .refl _
    exact linesInv_makeReady hresumed _
  · have hpaused := hset (st := .paused) nofun (keepsReads_mapLanes (unlisted_keepsReads s.op a.1)).lanes
    rw [pausePoll, unlistPoll_eq]
    exact linesInv_makeReady hpaused _

theorem linesInv_runSetLane : LinesInv (runSetLane tag body s) none := by
  refine linesInv_carryOut h tag fun q _ => linesInv_makeReady ?_ _
  have hset : LinesInv (s.setLane q.lane ((s.lane q.lane).withSettings s.interval q)) none :=
    h.of_tables (keepsReads_setLane (Lane.keepsReads_withSettings ..)) rfl rfl
  split
  · exact hset.of_steady (keepsReads_post ..) (steady_post ..)
  · exact hset

theorem linesInv_runReadLane : LinesInv (runReadLane tag body s) none :=
  linesInv_carryOut h tag fun _ _ => linesInv_withChoice (fun _ _ hu => linesInv_makeReady hu _) h

theorem linesInv_abandonLane (i : Fin 4) : LinesInv (abandonLane i s) none := by
  unfold abandonLane
  split <;> rename_i hs
  · exact h
  · exact h
  · exact h.of_tables (keepsReads_recover (by simp [hs]) false) rfl rfl
  · exact linesInv_endTransaction h i _
  · have hrecover := h.of_tables (keepsReads_recover (i := i) (by simp [hs]) true) rfl rfl
    exact hrecover.of_steady (keepsReads_post ..) (steady_post ..)

theorem linesInv_runLaneReset : LinesInv (runLaneReset tag body s) none :=
  linesInv_carryOut h tag fun i _ =>
    (linesInv_abandonLane h i).of_tables (keepsReads_setLane (.of_same rfl rfl rfl)) rfl rfl

theorem linesInv_runSetTargetState : LinesInv (runSetTargetState tag body s) none := by
  refine linesInv_carryOut h tag fun a _ => linesInv_makeReady ?_ _
  split
  · exact h.of_steady (keepsReads_quarantineTarget ..) (steady_quarantineTarget ..)
  · exact h.of_steady (keepsReads_reviveTarget ..) (steady_reviveTarget ..)

theorem linesInv_runSetAlert : LinesInv (runSetAlert tag body s) none := by
  refine linesInv_carryOut h tag fun a ha => ?_
  cases a with
  | inl q =>
    obtain ⟨hpoll, hp, hr⟩ := checkSetAlert_enable_ok ha
    exact linesInv_makeReady (linesInv_enableLine h hp hr hpoll) _
  | inr l => exact linesInv_makeReady (linesInv_disableLine h l) _

/-- Every command keeps the lines in their places (12.2). -/
theorem linesInv_commandOf {kind : Byte} {run : Byte → List Byte → State → State} (hkind : commandOf kind = some run) :
    LinesInv (run tag body s) none := by
  unfold commandOf at hkind
  split at hkind <;> cases hkind
  · exact linesInv_carryOut h tag fun _ _ => linesInv_makeReady h _
  · exact linesInv_carryOut h tag fun _ _ => linesInv_makeReady h _
  · exact linesInv_carryOut h tag fun c _ =>
      linesInv_makeReady (h.of_steady (keepsReads_clearClass c s) (steady_clearClass c s)) _
  · exact linesInv_carryOut h tag fun _ _ => h.of_tables (.of_same rfl rfl) rfl rfl
  · exact linesInv_runStart h tag body
  · exact linesInv_runStop h tag body
  · exact linesInv_runSetCycle h tag body
  · exact linesInv_runDefinePoll h tag body
  · exact linesInv_runDeletePoll h tag body
  · exact linesInv_runSetPollState h tag body
  · exact linesInv_carryOut h tag fun _ _ => linesInv_makeReady h _
  · exact linesInv_runSetLane h tag body
  · exact linesInv_runReadLane h tag body
  · exact linesInv_runLaneReset h tag body
  · exact linesInv_runBindTarget h tag body
  · exact linesInv_runUnbindTarget h tag body
  · exact linesInv_carryOut h tag fun _ _ => linesInv_makeReady h _
  · exact linesInv_runSetTargetState h tag body
  · exact linesInv_carryOut_of_steady h tag (fun q => keepsReads_submit tag q s) fun q => steady_submit tag q s
  · exact linesInv_carryOut_of_steady h tag (fun _ => (keepsReads_cancelJob ..).trans (keepsReads_finishDrain ..))
      fun _ => (steady_cancelJob ..).trans (steady_finishDrain ..)
  · exact linesInv_carryOut_of_steady h tag (fun i => keepsReads_flushLane tag i s) fun i => steady_flushLane tag i s
  · exact linesInv_runSetAlert h tag body
  · exact linesInv_carryOut h tag fun _ _ => linesInv_makeReady h _
  · exact linesInv_carryOut h tag fun _ _ => h.of_tables (.of_same rfl rfl) rfl rfl

end

/-! ### One happening -/

theorem answersLines_finish {u : State} (h : LinesInv u none) : Answers LinesHold (finish u) :=
  .next (linesInv_arbitrate h)

section
variable {s : State} (h : LinesInv s none)
include h

theorem answersLines_endStep (i : Fin 4) (f : Final) : Answers LinesHold (endStep i f s) :=
  answersLines_finish ((linesInv_endTransaction h i f).of_steady (keepsReads_finishDrain ..) (steady_finishDrain ..))

/-- The end of an attempt that the lane counts (R52, R53). -/
theorem answersLines_countedEnd (i : Fin 4) (counts : LaneCounts) (f : Final) :
    Answers LinesHold (endStep i f (s.setLane i { s.lane i with counts := counts })) := by
  have hcounted : KeepsReads s (s.setLane i { s.lane i with counts := counts }) :=
    keepsReads_setLane (.of_same rfl rfl rfl)
  exact answersLines_endStep (h.of_tables hcounted rfl rfl) i f

theorem answersLines_recoveryStep {i : Fin 4} {state : LaneState} {ended : State} (hreads : KeepsReads s ended)
    (hsteady : Steady s ended) : Answers LinesHold (recoveryStep i state ended s) :=
  answersLines_finish (h.of_steady (hreads.trans (keepsReads_finishDrain ..)) (hsteady.trans (steady_finishDrain ..)))

theorem answersLines_execAttemptAddrNack (i : Fin 4) : Answers LinesHold (execAttemptAddrNack i s) :=
  .onTransaction h fun _ hx =>
    .ite (fun _ => answersLines_finish (h.of_tables (keepsReads_setLane (Lane.keepsReads_retry hx _)) rfl rfl))
      (answersLines_endStep h _ _)

theorem answersLines_execTransactionEnd (i : Fin 4) (result : BusResult) :
    Answers LinesHold (execTransactionEnd i result s) := by
  refine .onTransaction h fun x _ => ?_
  split
  · exact answersLines_endStep h _ _
  · exact .next h

theorem answersLines_execRecoveryEnd (i : Fin 4) (result : RecoveryResult) :
    Answers LinesHold (execRecoveryEnd i result s) := by
  refine .ite (fun hs => ?_) (.next h)
  have hbusy : (s.lane i).state ≠ .busy := by simp [hs]
  cases result with
  | busFree => exact answersLines_recoveryStep h (keepsReads_recoveredIdle hbusy) (steady_recoveredIdle ..)
  | sdaHeld => exact answersLines_recoveryStep h (keepsReads_faultLane hbusy ..) (steady_faultLane ..)

theorem answersLines_execRecoverySclTimeout (i : Fin 4) : Answers LinesHold (execRecoverySclTimeout i s) :=
  .ite (fun hs => answersLines_recoveryStep h (keepsReads_faultLane (by simp [hs]) ..) (steady_faultLane ..)) (.next h)

theorem answersLines_execDrainRemoval (i : Fin 4) : Answers LinesHold (execDrainRemoval i s) := by
  unfold execDrainRemoval
  split
  · exact .ite (fun _ => answersLines_finish (h.of_steady ((keepsReads_drainHead ..).trans (keepsReads_finishDrain ..))
      ((steady_drainHead ..).trans (steady_finishDrain ..)))) (.next h)
  · exact .next h

/-- A filter that times a change is of an enabled line (R80). -/
theorem answersLines_takeLevel {l : Fin 8} (htiming : filterTiming s l = true) :
    Answers LinesHold (finish (takeLevel l s)) := by
  simp only [filterTiming, Bool.and_eq_true] at htiming
  exact answersLines_finish (linesInv_takeLevel h htiming.1)

theorem answersLines_execAlertInputChange (l : Fin 8) (high : Bool) :
    Answers LinesHold (execAlertInputChange l high s) := by
  have hpins : LinesInv { s with alertPins := s.alertPins.set l high } none := h.of_tables (.of_same rfl rfl) rfl rfl
  exact .ite (fun htakes => answersLines_takeLevel hpins htakes.2) (.next hpins)

theorem answersLines_execTransmitEnd : Answers LinesHold (execTransmitEnd s) := by
  have hfree : LinesInv { s with transmitter := none } none := h.of_tables (.of_same rfl rfl) rfl rfl
  unfold execTransmitEnd
  split
  · refine answersLines_finish ?_
    unfold frameSent
    split
    · exact hfree.of_tables (.of_same rfl rfl) rfl rfl
    · exact linesInv_of_reset rfl rfl rfl
    all_goals exact hfree
  · exact .next h

theorem answersLines_event {c : Instr} (hframe : c.hostFrame = none) : Answers LinesHold (exec c s) := by
  cases c <;> cases hframe
  case powerOn | resetInput | supplyBelowOperatingLevel => exact .next (linesInv_of_reset rfl rfl rfl)
  case resetRelease => exact .ite (fun _ => .next (linesInv_of_reset rfl rfl rfl)) (.next h)
  case initEnd => exact .ite (fun _ => answersLines_finish (h.of_tables (.of_same rfl rfl) rfl rfl)) (.next h)
  case receiveByte =>
    exact .ite (fun _ => answersLines_finish (linesInv_ofTables.takeByte
      (fun hkind tag body _ hu => linesInv_commandOf hu tag body hkind) h _)) (.next h)
  case gapTimeout =>
    exact .ite (fun _ => answersLines_finish (linesInv_ofTables.hostError (s := toHunt s)
      (h.of_tables (.of_same rfl rfl) rfl rfl) _ _)) (.next h)
  case transmitEnd => exact answersLines_execTransmitEnd h
  case cycleStart => exact .ite (fun _ => answersLines_finish (linesInv_startCycle h _)) (.next h)
  case lookForWork => exact .ite (fun hlook => answersLines_finish (LinesRest.look ⟨h, by simp [hlook.1]⟩)) (.next h)
  case attemptAddrNack => exact answersLines_execAttemptAddrNack h _
  case stretchTimeout => exact .onTransaction h fun _ _ => answersLines_countedEnd h _ _ _
  case busStuck => exact .onTransaction h fun _ _ => answersLines_endStep h _ _
  case arbLost => exact .onTransaction h fun _ _ => answersLines_countedEnd h _ _ _
  case transactionEnd => exact answersLines_execTransactionEnd h _ _
  case recoveryEnd => exact answersLines_execRecoveryEnd h _ _
  case recoverySclTimeout => exact answersLines_execRecoverySclTimeout h _
  case drainRemoval => exact answersLines_execDrainRemoval h _
  case alertInputChange => exact answersLines_execAlertInputChange h _ _
  case alertFilterExpiry => exact .ite (fun htiming => answersLines_takeLevel h htiming) (.next h)
  case alertEvaluation =>
    exact .ite (fun _ => answersLines_finish
      (linesInv_withChoice (fun picks _ hu => linesInv_evaluateLines hu picks) h)) (.next h)

/-- Every command and event keeps the lines in their places. -/
theorem exec_answersLines (c : Instr) : Answers LinesHold (exec c s) := by
  cases hframe : c.hostFrame with
  | none => exact answersLines_event h hframe
  | some frame =>
    exact linesInv_ofTables.exec_hostFrame (fun hkind tag body _ hu => linesInv_commandOf hu tag body hkind)
      (fun _ => linesInv_arbitrate) h hframe

end

/-- Settles O55, by the cases of the happening at the front of the queue. -/
theorem stepKeepsAlertLines : Obligations.StepKeepsAlertLines := by
  intro s t h hstep
  exact alertInv_iff.2 (step_answers (P := LinesHold)
    (fun _ _ hs => hs.of_tables (.of_same rfl rfl) rfl rfl) (fun c _ hs => exec_answersLines hs c)
    (alertInv_iff.1 h) hstep)

end Sys2Proof.Machine

/-! PROOF. The commands of the alert lines (R88 to R91), the changes of level that the filter takes (R80 to R83) and the
evaluation at START (R93), with the statements about them. -/

namespace Sys2Proof.Machine

/-! ### READ_ALERT (R79, R91) -/

theorem exec_readAlert {s : State} {tag : Byte} (h : Admits s tag) (body : List Byte) :
    exec (.readAlert tag body) s = .next (arbitrate (runReadAlert tag body (admitted tag s))) :=
  hostCommand_admitted h

/-- Settles O44: the fields of the reply in the order of R79 and R91. -/
theorem readAlertReportsLine : Obligations.ReadAlertReportsLine := by
  intro s tag hadm hop
  have hop' : (admitted tag s).op ≠ .init := hop
  refine ⟨fun b hb => ?_, ?_⟩
  · rw [exec_readAlert hadm, runReadAlert, checkIndex_out_of_range hb hop', carryOut_error]
    rfl
  · rintro a _ rfl
    rw [exec_readAlert hadm, runReadAlert, checkIndex_byte (by decide) a hop', carryOut_ok, answer_eq_replied]
    cases hpolarity : (s.line a).polarity <;>
      simp only [lineFields, inputActive, Line.activeAt, admitted_line, hpolarity] <;> rfl

/-! ### The fields of SET_ALERT (R88 check 3) -/

theorem polarityField_eq_some {b : Byte} {p : Polarity} : polarityField b = some p ↔ b = p.code := by
  unfold polarityField
  cases p <;> split_ifs <;> simp_all [Polarity.code]

theorem alertModeField_eq_some {b : Byte} {m : AlertMode} : alertModeField b = some m ↔ b = m.code := by
  unfold alertModeField
  cases m <;> split_ifs <;> simp_all [AlertMode.code]

theorem Polarity.code_lt (p : Polarity) : p.code.toNat < 2 := by cases p <;> decide

theorem AlertMode.code_lt (m : AlertMode) : m.code.toNat < 2 := by cases m <;> decide

/-- What an enable form that passes the range checks holds (R88 check 3). -/
theorem decodeAlert_eq_some {line polarity mode filter poll : Byte} {q : AlertRequest} :
    decodeAlert line polarity mode filter poll = some q ↔ indexField 8 line = some q.line ∧
      polarity = q.polarity.code ∧ mode = q.mode.code ∧ indexField 16 filter = some q.filter ∧
      indexField 48 poll = some q.boundPoll := by
  rcases q with ⟨l, p, m, f, b⟩
  simp only [decodeAlert, Option.bind_eq_bind, Option.bind_eq_some_iff, Option.pure_def, Option.some.injEq,
    AlertRequest.mk.injEq, polarityField_eq_some, alertModeField_eq_some]
  constructor
  · rintro ⟨_, hl, _, hp, _, hm, _, hf, _, hb, rfl, rfl, rfl, rfl, rfl⟩
    exact ⟨hl, hp, hm, hf, hb⟩
  · rintro ⟨hl, hp, hm, hf, hb⟩
    exact ⟨_, hl, _, hp, _, hm, _, hf, _, hb, rfl, rfl, rfl, rfl, rfl⟩

/-- The checks of an enable form whose fields are in range. -/
theorem checkSetAlert_enable {line polarity mode filter poll : Byte} {q : AlertRequest}
    (hq : decodeAlert line polarity mode filter poll = some q) {s : State} (hop : s.op ≠ .init) :
    checkSetAlert [line, 0x01, polarity, mode, filter, poll] s = (checkAlertRefs q s).map Sum.inl := by
  obtain ⟨hline, _⟩ := decodeAlert_eq_some.1 hq
  have henabled : yesNoField 0x01 = some true := rfl
  simp only [checkSetAlert, OpState.legalAlways_of_ne_init hop, if_true, hline, henabled, hq]

theorem checkSetAlert_enable_out_of_range {line polarity mode filter poll : Byte}
    (h : ¬ (line.toNat < 8 ∧ polarity.toNat < 2 ∧ mode.toNat < 2 ∧ filter.toNat < 16 ∧ poll.toNat < 48))
    {s : State} (hop : s.op ≠ .init) :
    checkSetAlert [line, 0x01, polarity, mode, filter, poll] s = .error .badValue := by
  have henabled : yesNoField 0x01 = some true := rfl
  cases hq : decodeAlert line polarity mode filter poll with
  | none =>
    simp only [checkSetAlert, OpState.legalAlways_of_ne_init hop, if_true, henabled, hq]
    cases indexField 8 line <;> rfl
  | some q =>
    obtain ⟨hline, rfl, rfl, hfilter, hpoll⟩ := decodeAlert_eq_some.1 hq
    exact absurd ⟨lt_of_indexField hline, q.polarity.code_lt, q.mode.code_lt, lt_of_indexField hfilter,
      lt_of_indexField hpoll⟩ h

/-- A disable form: only the line number is looked at (R88, R90). -/
theorem checkSetAlert_disable (a : Fin 8) (x y z w : Byte) {s : State} (hop : s.op ≠ .init) :
    checkSetAlert [byte a.val, 0x00, x, y, z, w] s = .ok (.inr a) := by
  have henabled : yesNoField 0x00 = some false := rfl
  simp only [checkSetAlert, OpState.legalAlways_of_ne_init hop, if_true, henabled, indexField_byte (by decide) a]

theorem checkSetAlert_disable_out_of_range {line : Byte} (h : 8 ≤ line.toNat) (x y z w : Byte) {s : State}
    (hop : s.op ≠ .init) : checkSetAlert [line, 0x00, x, y, z, w] s = .error .badValue := by
  simp only [checkSetAlert, OpState.legalAlways_of_ne_init hop, if_true, indexField_eq_none.2 h]

/-! ### The effects of SET_ALERT (R89, R90) -/

/-- The reply of an accepted SET_ALERT names the State that results (R89, R90). -/
theorem answerAlert_of_state {l : Fin 8} {u : State} {st : LineState} (h : (u.line l).state = st) {tag : Byte} :
    answerAlert tag l u = replied tag 0x96 [0x00, byte l.val, st.code] u := by
  rw [← h]
  rfl

/-- An accepted enable form with its reply (R89, R82). -/
theorem answerAlert_enableLine (tag : Byte) (q : AlertRequest) (s : State) {l : Line}
    (hl : (s.line q.line).armedWith q (s.alertPins.get q.line) = l) :
    answerAlert tag q.line (enableLine q s) =
      if s.op = .running ∧ q.mode = .level ∧ l.level = true then
        replied tag 0x96 [0x00, byte q.line.val, 0x02] (triggeredAt q.line (s.setLine q.line l))
      else replied tag 0x96 [0x00, byte q.line.val, 0x01] (s.setLine q.line l) := by
  have hmode : l.mode = q.mode := by rw [← hl]; rfl
  have hstate : l.state = .armed := by rw [← hl]; rfl
  have htriggers : (s.op = .running ∧ q.mode = .level ∧ l.level = true) =
      (s.op = .running ∧ q.mode = .level ∧ LineState.armed = .armed ∧ l.level = true) := by simp
  unfold enableLine levelTrigger
  simp only [hl, State.setLine_op, State.setLine_line_self, hmode, hstate, htriggers]
  split
  · rw [answerAlert_of_state (st := .pending) (by rw [trigger_line, if_pos rfl]; rfl), trigger_eq]
    rfl
  · exact answerAlert_of_state ((congrArg Line.state (State.setLine_line_self ..)).trans hstate)

/-- The read of a PENDING line leaves its tier with the line turned off (R90, R43). -/
theorem removeAlertRead_turnedOff (l : Fin 8) (s : State) :
    removeAlertRead l (s.setLine l (s.line l).turnedOff) =
      { s with
          lines := s.lines.set l (s.line l).turnedOff
          lanes := s.lanes.set (lineLane s l) (told s.op { s.lane (lineLane s l) with
            alertTier := (s.lane (lineLane s l)).alertTier.filter (· != l) }) } := by
  rw [removeAlertRead, wakeLane_setLane, lineLane_setLine (x := (s.line l).turnedOff) rfl]
  rfl

theorem exec_setAlertEnable {s : State} {tag : Byte} (h : Admits s tag) (line : Byte) (rest : List Byte) :
    exec (.setAlertEnable tag line rest) s =
      .next (arbitrate (runSetAlert tag (line :: 0x01 :: rest) (admitted tag s))) := hostCommand_admitted h

theorem exec_setAlertDisable {s : State} {tag : Byte} (h : Admits s tag) (line : Byte) (rest : List Byte) :
    exec (.setAlertDisable tag line rest) s =
      .next (arbitrate (runSetAlert tag (line :: 0x00 :: rest) (admitted tag s))) := hostCommand_admitted h

/-- An enable form in range: the checks of R88 in their order, then the arming of R89. -/
theorem runSetAlert_enable {line polarity mode filter poll : Byte} {q : AlertRequest}
    (hq : decodeAlert line polarity mode filter poll = some q) {s : State} (hop : s.op ≠ .init) (tag : Byte) :
    runSetAlert tag [line, 0x01, polarity, mode, filter, poll] (admitted tag s) =
      if (s.poll q.boundPoll).state = .free then denied tag 0x96 0x08 s
      else if (s.line q.line).state = .pending ∨ (s.line q.line).state = .running then denied tag 0x96 0x0B s
      else answerAlert tag q.line (enableLine q (admitted tag s)) := by
  rw [runSetAlert, checkSetAlert_enable hq (s := admitted tag s) hop, checkAlertRefs, admitted_poll, admitted_line]
  split_ifs <;> rfl

theorem runSetAlert_disable (a : Fin 8) (x y z w : Byte) {s : State} (hop : s.op ≠ .init) (tag : Byte) :
    runSetAlert tag [byte a.val, 0x00, x, y, z, w] (admitted tag s) =
      answerAlert tag a (disableLine a (admitted tag s)) := by
  rw [runSetAlert, checkSetAlert_disable a x y z w (s := admitted tag s) hop]
  rfl

/-- Settles O43: the checks of R88 in their order and the arming of R89, and the disable form by the State of the line
(R90). -/
theorem setAlertArmsOrClosesLine : Obligations.SetAlertArmsOrClosesLine := by
  refine ⟨fun s tag hadm hop => ⟨fun line polarity mode filter poll h => ?_, ?_⟩,
    fun s tag x y z w hadm hop => ⟨fun line hline => ?_, ?_⟩⟩
  · rw [exec_setAlertEnable hadm, runSetAlert, checkSetAlert_enable_out_of_range h (s := admitted tag s) hop,
      carryOut_error]
    rfl
  · rintro a polarity mode filter p l hl _ rfl
    have hq : decodeAlert (byte a.val) polarity.code mode.code (byte filter.val) (byte p.val) =
        some ⟨a, polarity, mode, filter, p⟩ :=
      decodeAlert_eq_some.2 ⟨indexField_byte (by decide) a, rfl, rfl, indexField_byte (by decide) filter,
        indexField_byte (by decide) p⟩
    have harmed : (s.line a).armedWith ⟨a, polarity, mode, filter, p⟩ (s.alertPins.get a) = l := by
      rw [hl]
      cases polarity <;> rfl
    rw [exec_setAlertEnable hadm, runSetAlert_enable hq hop, answerAlert_enableLine tag _ (admitted tag s) harmed]
    rfl
  · rw [exec_setAlertDisable hadm, runSetAlert,
      checkSetAlert_disable_out_of_range hline x y z w (s := admitted tag s) hop, carryOut_error]
    rfl
  · rintro a _ rfl _ rfl
    rw [exec_setAlertDisable hadm, runSetAlert_disable a x y z w hop]
    refine next_arbitrate_congr ?_
    cases hs : (s.line a).state with
    | off =>
      rw [disableLine_off (s := admitted tag s) hs]
      exact answerAlert_of_state (u := admitted tag s) hs
    | armed =>
      rw [disableLine_waiting (s := admitted tag s) (.inl hs)]
      exact answerAlert_of_state (congrArg Line.state (State.setLine_line_self ..))
    | holdoff =>
      rw [disableLine_waiting (s := admitted tag s) (.inr hs)]
      exact answerAlert_of_state (congrArg Line.state (State.setLine_line_self ..))
    | pending =>
      rw [disableLine_pending (s := admitted tag s) hs, removeAlertRead_turnedOff]
      refine answerAlert_of_state (st := .off) ?_
      exact congrArg Line.state (Table.get_set_self ..)
    | running =>
      rw [disableLine_running (s := admitted tag s) hs]
      exact answerAlert_of_state (congrArg Line.state (State.setLine_line_self ..))

end Sys2Proof.Machine

/-! PROOF. The levels that the filter takes and the evaluation that START owes (R80 to R83, R93). -/

namespace Sys2Proof.Machine

theorem filterTiming_iff {s : State} {l : Fin 8} :
    filterTiming s l = true ↔ (s.line l).enabled = true ∧ (s.line l).level ≠ inputActive s l := by
  rw [filterTiming, Bool.and_eq_true, bne_iff_ne, ne_comm]

theorem Line.countsEdge_iff {l : Line} {op : OpState} : l.countsEdge op = true ↔
    l.mode = .edge ∧ op = .running ∧ l.closing = false ∧ (l.state = .pending ∨ l.state = .running) := by
  simp only [Line.countsEdge, Bool.and_eq_true, Bool.or_eq_true, beq_iff_eq, Bool.not_eq_true']
  tauto

/-- The level is taken, and a change to active is an edge (R80, R82, R83). -/
theorem takeLevel_eq {l : Fin 8} {s : State} {now : Bool} (h : inputActive s l = now) :
    takeLevel l s =
      if now = true ∧ (s.line l).state = .armed ∧ s.op = .running then
        triggeredAt l (s.setLine l { s.line l with level := true })
      else if now = true ∧ (s.line l).mode = .edge ∧ s.op = .running ∧ (s.line l).closing = false ∧
          ((s.line l).state = .pending ∨ (s.line l).state = .running) then
        s.setLine l { s.line l with level := true, followUp := true, extraEdges := count8 (s.line l).extraEdges }
      else s.setLine l { s.line l with level := now } := by
  unfold takeLevel
  cases now with
  | false => simp only [h, Bool.false_eq_true, if_false, false_and]
  | true =>
    simp only [h, activeEdge, State.setLine_line_self, State.setLine_op, State.setLine_setLine, if_true, true_and,
      Line.countsEdge_iff, trigger_eq]

theorem foldl_trigger_eq (ls : List (Fin 8)) (s : State) :
    ls.foldl (fun u l => trigger l u) s = ls.foldl (fun u l => triggeredAt l u) s := by
  simp only [trigger_eq]

theorem execAlertFilterExpiry_eq (l : Fin 8) (s : State) :
    execAlertFilterExpiry l s =
      if (s.line l).enabled = true ∧ (s.line l).level ≠ inputActive s l then .next (arbitrate (takeLevel l s))
      else .next s := by
  simp only [execAlertFilterExpiry, filterTiming_iff]
  rfl

theorem execAlertInputChange_eq (l : Fin 8) (high : Bool) {s u : State}
    (hu : u = { s with alertPins := s.alertPins.set l high }) :
    execAlertInputChange l high s =
      if (s.line l).enabled = true ∧ (s.line l).filter = 0 ∧ (s.line l).level ≠ inputActive u l then
        .next (arbitrate (takeLevel l u))
      else .next u := by
  have htakes : ((s.line l).filter = 0 ∧ filterTiming u l = true) ↔
      (s.line l).enabled = true ∧ (s.line l).filter = 0 ∧ (s.line l).level ≠ inputActive u l := by
    have hline : u.line l = s.line l := by rw [hu]; rfl
    rw [filterTiming_iff, hline]
    tauto
  simp only [execAlertInputChange, ← hu, htakes]
  rfl

/-- Settles O45: `takeLevel` is the taking of R80, R82 and R83 written out, and the evaluation triggers its lines in the
order drawn. -/
theorem levelChangesTriggerLines : Obligations.LevelChangesTriggerLines := by
  refine ⟨?_, fun s => ⟨fun hnot => ?_, fun hrunning howed => ?_⟩⟩
  · rintro s a high active rfl takes rfl
    have hactive (u : State) : inputActive u a = match (u.line a).polarity with
        | .high => u.alertPins.get a
        | .low => !u.alertPins.get a := by
      rw [inputActive, Line.activeAt]
      cases (u.line a).polarity <;> rfl
    constructor
    · refine (execAlertInputChange_eq a high rfl).trans ?_
      rw [takeLevel_eq rfl, hactive]
      rfl
    · refine (execAlertFilterExpiry_eq a s).trans ?_
      rw [takeLevel_eq rfl, hactive]
      rfl
  · have hidle : ¬ (s.op = .running ∧ s.evaluationOwed = true) := by
      rintro ⟨hrunning, howed⟩
      simp [hrunning, howed] at hnot
    exact if_neg hidle
  · refine ⟨reorder s.choice (evaluatedLines s), s.afterChoice.script, s.afterChoice.draws,
      (reorder_nodup ..).2 (nodup_evaluatedLines s), fun a => (mem_reorder ..).trans (mem_evaluatedLines s a), ?_⟩
    refine (if_pos ⟨hrunning, howed⟩).trans (next_arbitrate_congr ?_)
    rw [withChoice, afterChoice_frame, evaluateLines, foldl_trigger_eq]
    rfl

end Sys2Proof.Machine

/-! PROOF. The end of an alert read, of a running job and of a revival probe (R55, R70, R71, R85, R100). -/

namespace Sys2Proof.Machine

/-! ### The end of an alert read (R85) -/

/-- What the end of its read makes of a line (R85). -/
theorem moveLine_lines (a : Fin 8) (s : State) :
    (moveLine a s).lines = s.lines.set a
      (if (s.line a).closing then { s.line a with state := .off, closing := false, followUp := false, extraEdges := 0 }
       else if s.op ≠ .running then { s.line a with state := .armed, followUp := false, extraEdges := 0 }
       else if (s.line a).mode = .level then { s.line a with state := .holdoff, extraEdges := 0 }
       else if (s.line a).followUp then
         { s.line a with state := .pending, followUp := false, extraEdges := 0
                         triggers := count16 (s.line a).triggers }
       else { s.line a with state := .armed, extraEdges := 0 }) := by
  by_cases hop : s.op = .running
  · rw [moveLine_running hop]
    simp only [hop, ne_eq, not_true, if_false]
    split_ifs <;> rfl
  · have howes : (s.line a).owesRead s.op = false :=
      Bool.eq_false_iff.2 fun h => hop ((Line.owesRead_iff ..).1 h).2.2.2
    rw [moveLine, howes, Line.readEnded]
    simp only [Bool.false_eq_true, if_false, hop, ne_eq, not_false_iff, if_true]
    rfl

section
variable (a : Fin 8) (x : Transaction) (f : Final) (s : State)

theorem endAlertRead_pool :
    (endAlertRead a x f s).pool = ⟨s.pool.free + (if f.status = .ok then 0 else 1), s.pool.lowWater⟩ := by
  rw [endAlertRead, releaseIf_frame, moveLine_frame, alertSnapshot_frame, ← givenBack]
  rfl

theorem endAlertRead_polls :
    (endAlertRead a x f s).polls =
      if f.status = .aborted ∨ x.definitionGone = true then s.polls
      else s.polls.set (s.line a).boundPoll ((s.poll (s.line a).boundPoll).written f) := by
  rw [endAlertRead, releaseIf_frame, moveLine_frame, alertSnapshot]
  split_ifs <;> rfl

theorem endAlertRead_lines : (endAlertRead a x f s).lines = (moveLine a s).lines := by
  rw [endAlertRead, releaseIf_frame, alertSnapshot_frame, moveLine_lines, moveLine_lines]
  rfl

end

/-! ### The end of a running job (R70, R71) -/

theorem endRunningJob_pool (j : Job) (f : Final) (s : State) :
    (endRunningJob j f s).pool =
      ⟨s.pool.free + (if j.data.isSome then 1 else 0) + (if j.kind = .read ∧ f.status ≠ .ok then 1 else 0),
        s.pool.lowWater⟩ := by
  rw [endRunningJob, releaseIf_frame, releaseIf_frame]
  simp only [Bool.and_eq_true, beq_iff_eq, bne_iff_ne]
  rfl

theorem endRunningJob_records (j : Job) (f : Final) (s : State) :
    (endRunningJob j f s).records = s.records ++ [jobRecord s.cycle j f] := by
  rw [endRunningJob_frame]

theorem jobRecord_eq (cycle : Word16) (j : Job) (f : Final) :
    jobRecord cycle j f =
      ⟨.job j.number j.tag
        (if j.kind = .write ∧ f.status = .ok then j.byteCount
         else if j.kind = .write ∧ f.status = .dataNack then f.acked else 0),
        j.target, cycle, f.status, if j.kind = .read ∧ f.status = .ok then some f.data else none⟩ := by
  have hdata : (if j.kind = .read then f.recordData else none) =
      if j.kind = .read ∧ f.status = .ok then some f.data else none := by
    rw [Final.recordData, ite_and]
  have hacked : j.acknowledged f = if j.kind = .write ∧ f.status = .ok then j.byteCount
      else if j.kind = .write ∧ f.status = .dataNack then f.acked else 0 := by
    unfold Job.acknowledged
    cases j.kind <;> cases f.status <;> rfl
  rw [jobRecord, hdata, hacked]

/-! ### The report of the end (R55) -/

section
variable {x : Transaction} (held : Reservation) (f : Final) (s : State)

theorem reportOutcome_alert {a : Fin 8} (h : x.work = .alert a) :
    reportOutcome x held f s = endAlertRead a x f s := by rw [reportOutcome, h]

theorem reportOutcome_job {j : Job} (h : x.work = .job j) : reportOutcome x held f s = endRunningJob j f s := by
  rw [reportOutcome, h]

theorem reportOutcome_probe (h : x.work = .probe) : reportOutcome x held f s = s := by rw [reportOutcome, h]

end

/-- The lane's look for work is the last step of the end and leaves the report as it is (R55). -/
theorem endTransaction_reported {i : Fin 4} {s u : State} {x : Transaction} (htxn : (s.lane i).txn = some x) {f : Final}
    (hu : reportOutcome x (s.lane i).reservation f (beforeReport i x f s) = u) :
    endTransaction i f s = { u with lanes := (endTransaction i f s).lanes } := by
  rw [endTransaction_eq htxn, wakeLane_frame, hu]

theorem Lane.gains_alertTier (l : Lane) (reads : List (Fin 8)) (woken : Bool) :
    (l.gains reads woken).alertTier = l.alertTier ++ reads := rfl

theorem beforeReport_alertTier (i : Fin 4) (x : Transaction) (f : Final) (s : State) (k : Fin 4) :
    ((beforeReport i x f s).lane k).alertTier = (s.lane k).alertTier := by
  rw [beforeReport, targetOutcome_gains, Lane.gains_alertTier, List.append_nil, State.setLane_lane]
  split
  · rename_i hk
    rw [hk, Lane.endTxn_eq]
  · rfl

/-- The read that the end of an alert read owes is the only one that joins an ALERT tier (R85). -/
theorem endTransaction_alertTier {i : Fin 4} {s : State} {x : Transaction} (htxn : (s.lane i).txn = some x) {a : Fin 8}
    (hwork : x.work = .alert a) (f : Final) (k : Fin 4) :
    ((endTransaction i f s).lane k).alertTier = (s.lane k).alertTier ++ readsOwed k s a := by
  obtain ⟨_, _, freed, _, htells⟩ := tellsLanes_endAlertRead a x f (beforeReport i x f s)
  have hreads : readsOwed k (beforeReport i x f s) a = readsOwed k s a :=
    readsPutBack_beforeReport i x f s (.alert a) k
  rw [endTransaction_eq htxn, reportOutcome, hwork]
  dsimp only
  rw [wakeLane_gains, htells, hreads, Lane.gains_alertTier, Lane.gains_alertTier, beforeReport_alertTier,
    List.append_nil]

/-- Settles O38: the report path of each kind of work, in a state whose records, pool, polls and lines are still those
at the end. -/
theorem alertReadJobAndProbeEnd : Obligations.AlertReadJobAndProbeEnd := by
  refine ⟨?_, fun s i x htxn f u hu => ⟨fun hwork => ?_, fun j hwork => ?_⟩⟩
  · rintro s i x htxn a hwork f _ rfl _ rfl
    have hframe := beforeReport_frame i x f s
    have hend := endTransaction_reported htxn (reportOutcome_alert _ f _ hwork)
    refine ⟨?_, ?_, ?_, ?_, fun k => ?_⟩
    · rw [hend, endAlertRead_frame, hframe]
      rfl
    · rw [hend, endAlertRead_pool, hframe]
    · rw [hend, endAlertRead_polls, hframe]
      rfl
    · rw [hend, endAlertRead_lines, moveLine_lines, hframe]
      rfl
    · rw [endTransaction_alertTier htxn hwork, readsOwed]
      refine congrArg _ (if_congr (and_congr_right' ((Line.owesRead_iff ..).trans ?_)) rfl rfl)
      tauto
  · rw [hu, endTransaction_reported htxn (reportOutcome_probe _ f _ hwork), beforeReport_frame]
    exact ⟨rfl, rfl, rfl, rfl⟩
  · rw [hu, endTransaction_reported htxn (reportOutcome_job _ f _ hwork), endRunningJob_records, endRunningJob_pool,
      jobRecord_eq, endRunningJob_frame, beforeReport_frame]
    exact ⟨rfl, rfl, rfl, rfl⟩

end Sys2Proof.Machine

/-! PROOF. What a cycle start makes of the lines in HOLDOFF and of the probe countdowns (R15, R82, R86, R99). -/

namespace Sys2Proof.Machine

/-! ### Several lines trigger (R82, R86) -/

theorem trigger_gains (a : Fin 8) (s : State) (k : Fin 4) :
    ∃ woken, (trigger a s).lane k = (s.lane k).gains (if lineLane s a = k then [a] else []) woken := by
  rw [trigger_eq, triggeredAt_lane]
  simp only [eq_comm (a := k)]
  split
  · by_cases hop : s.op = .running
    · exact ⟨true, by rw [hop, told_running, Lane.wake_eq_gains]; simp [Lane.gains]⟩
    · exact ⟨false, by simp [told, hop, Lane.gains]⟩
  · exact ⟨false, (Lane.gains_none _).symm⟩

theorem lineLane_trigger (a : Fin 8) (s : State) (l : Fin 8) : lineLane (trigger a s) l = lineLane s l := by
  have hbound : ((trigger a s).line l).boundPoll = (s.line l).boundPoll := by
    rw [trigger_line]
    split <;> rfl
  rw [lineLane, hbound, trigger_frame]
  rfl

/-- The reads join the tiers of their lanes in the order of the triggers (R82). -/
theorem triggerAll_gains (ls : List (Fin 8)) (s : State) (k : Fin 4) :
    ∃ woken, (triggerAll ls s).lane k = (s.lane k).gains (ls.filter fun l => lineLane s l = k) woken := by
  induction ls generalizing s with
  | nil => exact ⟨false, (Lane.gains_none _).symm⟩
  | cons a ls ih =>
    obtain ⟨woken, hrest⟩ := ih (trigger a s)
    obtain ⟨woken', hfirst⟩ := trigger_gains a s k
    refine ⟨woken' || woken, ?_⟩
    rw [triggerAll_cons, hrest, hfirst, Lane.gains_gains]
    simp only [lineLane_trigger]
    congr 1
    by_cases hk : lineLane s a = k <;> simp [hk]

theorem triggerAll_line {ls : List (Fin 8)} (hnodup : ls.Nodup) (s : State) (l : Fin 8) :
    (triggerAll ls s).line l = if l ∈ ls then (s.line l).triggered else s.line l := by
  induction ls generalizing s with
  | nil => rfl
  | cons a ls ih =>
    obtain ⟨hnot, hrest⟩ := List.nodup_cons.1 hnodup
    rw [triggerAll_cons, ih hrest, trigger_line]
    by_cases hl : l = a
    · simp [hl, hnot]
    · simp [hl]

/-! ### The lines leave HOLDOFF (R86) -/

theorem armAll_lane (ls : List (Fin 8)) (s : State) (k : Fin 4) : (ls.foldl armLine s).lane k = s.lane k :=
  foldl_keeps (f := armLine) (P := fun u => u.lane k = s.lane k) (fun _ _ h => h) ls s rfl

theorem lineLane_armAll (ls : List (Fin 8)) (s : State) (l : Fin 8) :
    lineLane (ls.foldl armLine s) l = lineLane s l := by
  refine foldl_keeps (P := fun u => lineLane u l = lineLane s l) (fun u a h => ?_) ls s rfl
  rw [← h, lineLane, armLine_line]
  split <;> rfl

/-- Every line in HOLDOFF leaves it, and no other line moves (R86). -/
theorem leaveHoldoffs_line (picks : List Nat) (s : State) (l : Fin 8) :
    (leaveHoldoffs picks s).line l =
      if (s.line l).state = .holdoff then
        if (s.line l).level = true then (s.line l).triggered else { s.line l with state := .armed }
      else s.line l := by
  refine (triggerAll_line ((reorder_nodup ..).2 (nodup_holdoffLines ..)) _ l).trans ?_
  rw [armAll_line]
  simp only [mem_reorder, mem_holdoffLines]
  by_cases hs : (s.line l).state = .holdoff <;> cases hl : (s.line l).level <;> simp [hs]

theorem leaveHoldoffs_gains (picks : List Nat) (s : State) (k : Fin 4) :
    ∃ woken, (leaveHoldoffs picks s).lane k =
      (s.lane k).gains ((reorder picks (holdoffLines s true)).filter fun l => lineLane s l = k) woken := by
  obtain ⟨woken, h⟩ :=
    triggerAll_gains (reorder picks (holdoffLines s true)) ((holdoffLines s false).foldl armLine s) k
  simp only [armAll_lane, lineLane_armAll] at h
  exact ⟨woken, h⟩

/-! ### The probe countdowns (R99) -/

theorem probeRunning_iff (s : State) (t : Fin 32) : probeRunning s t = true ↔ ProbeRuns s t := by
  unfold probeRunning
  rw [Table.any_toList]
  refine exists_congr fun i => ?_
  rw [State.lane]
  cases (s.lanes.get i).txn <;> simp

theorem counting_iff (s : State) (t : Fin 32) :
    counting s t = true ↔ (s.target t).state = .quarantined ∧ (s.target t).probeExponent ≠ 0 ∧
      (∀ i, t ∉ (s.lane i).probeTier) ∧ ¬ ProbeRuns s t := by
  simp only [counting, State.isQuarantined, Bool.and_eq_true, Bool.not_eq_true', beq_iff_eq, bne_iff_ne,
    ← Bool.not_eq_true, probePending_iff, probeRunning_iff, not_exists, and_assoc]

theorem mem_countingTargets (s : State) (one : Bool) (t : Fin 32) :
    t ∈ countingTargets s one ↔
      counting s t = true ∧ if one then (s.target t).countdown = 1 else 1 < (s.target t).countdown := by
  cases one <;> simp [countingTargets]

theorem nodup_countingTargets (s : State) (one : Bool) : (countingTargets s one).Nodup :=
  (List.nodup_finRange 32).filter _

/-- Countdowns that go down one after the other (R99). -/
def lowerAll (ts : List (Fin 32)) (s : State) : State := ts.foldl (fun u t => lowerCountdown t u) s

/-- Probes that are queued one after the other (R99). -/
def queueAll (ts : List (Fin 32)) (s : State) : State := ts.foldl (fun u t => queueProbe t u) s

theorem countDowns_eq (picks : List Nat) (s : State) :
    countDowns picks s = queueAll (reorder picks (countingTargets s true)) (lowerAll (countingTargets s false) s) := rfl

theorem lowerCountdown_target (a : Fin 32) (s : State) (t : Fin 32) :
    (lowerCountdown a s).target t =
      if t = a then { s.target t with countdown := (s.target t).countdown - 1 } else s.target t := by
  rw [lowerCountdown, State.setTarget_target]
  split
  · rename_i ht
    rw [ht]
  · rfl

theorem lowerAll_target {ts : List (Fin 32)} (hnodup : ts.Nodup) (s : State) (t : Fin 32) :
    (lowerAll ts s).target t =
      if t ∈ ts then { s.target t with countdown := (s.target t).countdown - 1 } else s.target t := by
  induction ts generalizing s with
  | nil => rfl
  | cons a ts ih =>
    obtain ⟨hnot, hrest⟩ := List.nodup_cons.1 hnodup
    refine (ih hrest _).trans ?_
    rw [lowerCountdown_target]
    by_cases ht : t = a
    · simp [ht, hnot]
    · simp [ht]

theorem lowerAll_lane (ts : List (Fin 32)) (s : State) (k : Fin 4) : (lowerAll ts s).lane k = s.lane k :=
  foldl_keeps (f := fun u t => lowerCountdown t u) (P := fun u => u.lane k = s.lane k) (fun _ _ h => h) ts s rfl

theorem queueProbe_target (a : Fin 32) (s : State) (t : Fin 32) :
    (queueProbe a s).target t = if t = a then { s.target t with countdown := 0 } else s.target t := by
  rw [queueProbe, wakeLane_frame]
  refine (State.setTarget_target ..).trans ?_
  split
  · rename_i ht
    rw [ht]
  · rfl

theorem queueAll_target (ts : List (Fin 32)) (s : State) (t : Fin 32) :
    (queueAll ts s).target t = if t ∈ ts then { s.target t with countdown := 0 } else s.target t := by
  induction ts generalizing s with
  | nil => rfl
  | cons a ts ih =>
    refine (ih _).trans ?_
    rw [queueProbe_target]
    by_cases ht : t = a <;> by_cases hmem : t ∈ ts <;> simp [ht, hmem]

theorem queueProbe_tiers (a : Fin 32) (s : State) (k : Fin 4) :
    ((queueProbe a s).lane k).alertTier = (s.lane k).alertTier ∧
    ((queueProbe a s).lane k).probeTier = (s.lane k).probeTier ++ if (s.target a).lane = k then [a] else [] := by
  rw [queueProbe, wakeLane_setLane, State.setLane_lane]
  by_cases hk : k = (s.target a).lane
  · rw [if_pos hk, told_frame, hk, if_pos rfl]
    exact ⟨rfl, rfl⟩
  · rw [if_neg hk, if_neg (Ne.symm hk), List.append_nil]
    exact ⟨rfl, rfl⟩

/-- The probes join the tiers of their lanes in the order in which they are queued (R99). -/
theorem queueAll_tiers (ts : List (Fin 32)) (s : State) (k : Fin 4) :
    ((queueAll ts s).lane k).alertTier = (s.lane k).alertTier ∧
    ((queueAll ts s).lane k).probeTier = (s.lane k).probeTier ++ ts.filter fun t => (s.target t).lane = k := by
  induction ts generalizing s with
  | nil => exact ⟨rfl, (List.append_nil _).symm⟩
  | cons a ts ih =>
    obtain ⟨halerts, hprobes⟩ := ih (queueProbe a s)
    obtain ⟨halert, hprobe⟩ := queueProbe_tiers a s k
    have hlane (t : Fin 32) : ((queueProbe a s).target t).lane = (s.target t).lane := by
      rw [queueProbe_target]
      split <;> rfl
    refine ⟨halerts.trans halert, hprobes.trans ?_⟩
    simp only [hprobe, hlane]
    by_cases hk : (s.target a).lane = k <;> simp [hk]

/-- A countdown that runs goes down by one, from 1 to 0 too, and 0 stays (R99). -/
theorem countDowns_target (picks : List Nat) (s : State) (t : Fin 32) :
    (countDowns picks s).target t =
      if counting s t = true then { s.target t with countdown := (s.target t).countdown - 1 } else s.target t := by
  rw [countDowns_eq, queueAll_target, lowerAll_target (nodup_countingTargets ..)]
  simp only [mem_reorder, mem_countingTargets, if_true, Bool.false_eq_true, if_false]
  by_cases hcounting : counting s t = true
  · rcases Nat.lt_trichotomy (s.target t).countdown 1 with h | h | h
    · have hzero := Nat.lt_one_iff.1 h
      simp only [hcounting, hzero]
      exact congrArg (fun n => { s.target t with countdown := n }) hzero
    · simp [hcounting, h]
    · simp [hcounting, h, h.ne']
  · simp [hcounting]

theorem countDowns_tiers (picks : List Nat) (s : State) (k : Fin 4) :
    ((countDowns picks s).lane k).alertTier = (s.lane k).alertTier ∧
    ((countDowns picks s).lane k).probeTier =
      (s.lane k).probeTier ++ (reorder picks (countingTargets s true)).filter fun t => (s.target t).lane = k := by
  have hlane (t : Fin 32) : ((lowerAll (countingTargets s false) s).target t).lane = (s.target t).lane := by
    rw [lowerAll_target (nodup_countingTargets ..)]
    split <;> rfl
  have htiers := queueAll_tiers (reorder picks (countingTargets s true)) (lowerAll (countingTargets s false) s) k
  simp only [hlane, lowerAll_lane] at htiers
  exact htiers

/-! ### What a choice and a look for work leave as it is -/

theorem afterChoice_line (s : State) (l : Fin 8) : s.afterChoice.line l = s.line l := by
  rw [afterChoice_frame]
  rfl

theorem afterChoice_target (s : State) (t : Fin 32) : s.afterChoice.target t = s.target t := by
  rw [afterChoice_frame]
  rfl

theorem afterChoice_lineLane (s : State) (l : Fin 8) : lineLane s.afterChoice l = lineLane s l := by
  rw [afterChoice_frame]
  rfl

theorem wakeAll_line (s : State) (l : Fin 8) : (wakeAll s).line l = s.line l := by
  rw [wakeAll_frame]
  rfl

theorem wakeAll_target (s : State) (t : Fin 32) : (wakeAll s).target t = s.target t := by
  rw [wakeAll_frame]
  rfl

theorem wakeAll_tiers (s : State) (k : Fin 4) :
    ((wakeAll s).lane k).alertTier = (s.lane k).alertTier ∧ ((wakeAll s).lane k).probeTier = (s.lane k).probeTier := by
  rw [wakeAll_gains]
  exact ⟨List.append_nil _, rfl⟩

theorem countDowns_line (picks : List Nat) (s : State) (l : Fin 8) : (countDowns picks s).line l = s.line l := by
  rw [countDowns_frame]
  rfl

/-! ### The state in which the lines leave HOLDOFF (R15) -/

/-- The part once the misses have been posted: the state in which the lines leave HOLDOFF. -/
def beforeHoldoffs (c : Word16) (s : State) : State :=
  withChoice (fun picks => postCycle picks { s with cycle := c }) (scheduleCycle { s with cycle := c })

theorem beforeCountDowns_eq (c : Word16) (s : State) :
    beforeCountDowns c s = leaveHoldoffs (beforeHoldoffs c s).choice (beforeHoldoffs c s).afterChoice := rfl

theorem beforeHoldoffs_lane (c : Word16) (s : State) (k : Fin 4) :
    (beforeHoldoffs c s).lane k = (s.lane k).atCycleStart (admittedOf (laneAdmission { s with cycle := c } k)) := by
  rw [beforeHoldoffs, withChoice, postCycle_lane, afterChoice_lane, scheduleCycle_lane]
  rfl

theorem beforeHoldoffs_lines (c : Word16) (s : State) : (beforeHoldoffs c s).lines = s.lines := by
  rw [beforeHoldoffs, withChoice, postCycle_frame, afterChoice_frame, scheduleCycle_frame]

theorem beforeHoldoffs_targets (c : Word16) (s : State) : (beforeHoldoffs c s).targets = s.targets := by
  rw [beforeHoldoffs, withChoice, postCycle_frame, afterChoice_frame, scheduleCycle_frame]

theorem beforeHoldoffs_defn (c : Word16) (s : State) (p : Fin 48) :
    ((beforeHoldoffs c s).poll p).defn = (s.poll p).defn := by
  have hcounted := Steady.foldl steady_countMiss
    ((List.finRange 4).flatMap (cycleMisses { s with cycle := c })) { s with cycle := c }
  rw [State.poll, beforeHoldoffs, withChoice, postCycle_polls, afterChoice_polls, scheduleCycle_polls]
  exact (hcounted.polls p).defn

theorem beforeHoldoffs_lineLane (c : Word16) (s : State) (l : Fin 8) :
    lineLane (beforeHoldoffs c s) l = lineLane s l :=
  lineLane_congr (beforeHoldoffs_lines c s) (beforeHoldoffs_defn c s)
    (fun t => by rw [State.target, beforeHoldoffs_targets]; rfl) l

/-! ### The state on which the countdowns act (R15, R86) -/

section
variable (c : Word16) (s : State)

theorem beforeHoldoffs_afterChoice_line (l : Fin 8) : (beforeHoldoffs c s).afterChoice.line l = s.line l := by
  rw [afterChoice_line, State.line, beforeHoldoffs_lines]
  rfl

theorem beforeCountDowns_line (l : Fin 8) :
    (beforeCountDowns c s).line l =
      if (s.line l).state = .holdoff then
        if (s.line l).level = true then (s.line l).triggered else { s.line l with state := .armed }
      else s.line l := by
  rw [beforeCountDowns_eq, leaveHoldoffs_line, beforeHoldoffs_afterChoice_line]

theorem beforeCountDowns_target (t : Fin 32) : (beforeCountDowns c s).target t = s.target t := by
  have hleave (picks : List Nat) (u : State) : (leaveHoldoffs picks u).target t = u.target t := by
    rw [leaveHoldoffs_frame]
    rfl
  rw [beforeCountDowns_eq, hleave, afterChoice_target, State.target, beforeHoldoffs_targets]
  rfl

/-- The lane at a cycle start once the reads of the lines that trigger have joined its tier (R82, R86). -/
theorem beforeCountDowns_gains (k : Fin 4) :
    ∃ (new : List (Fin 8)) (woken : Bool), new.Nodup ∧
      (∀ l, l ∈ new ↔ (s.line l).state = .holdoff ∧ (s.line l).level = true ∧ lineLane s l = k) ∧
      (beforeCountDowns c s).lane k =
        ((s.lane k).atCycleStart (admittedOf (laneAdmission { s with cycle := c } k))).gains new woken := by
  obtain ⟨woken, hlane⟩ := leaveHoldoffs_gains (beforeHoldoffs c s).choice (beforeHoldoffs c s).afterChoice k
  rw [afterChoice_lane, beforeHoldoffs_lane] at hlane
  refine ⟨_, woken, ((reorder_nodup ..).2 (nodup_holdoffLines ..)).filter _, fun l => ?_, hlane⟩
  simp only [List.mem_filter, mem_reorder, mem_holdoffLines, afterChoice_lineLane,
    beforeHoldoffs_lineLane, beforeHoldoffs_afterChoice_line,
    decide_eq_true_eq, and_assoc]

/-- The countdowns act on the targets whose countdown runs when the cycle starts (R99). -/
theorem counting_beforeCountDowns (t : Fin 32) :
    counting (beforeCountDowns c s).afterChoice t = true ↔ (s.target t).state = .quarantined ∧
      (s.target t).probeExponent ≠ 0 ∧ (∀ i, t ∉ (s.lane i).probeTier) ∧ ¬ ProbeRuns s t := by
  have hlane (k : Fin 4) : ((beforeCountDowns c s).afterChoice.lane k).probeTier = (s.lane k).probeTier ∧
      ((beforeCountDowns c s).afterChoice.lane k).txn = (s.lane k).txn := by
    obtain ⟨_, _, _, _, h⟩ := beforeCountDowns_gains c s k
    rw [afterChoice_lane, h]
    exact ⟨rfl, rfl⟩
  simp only [counting_iff, afterChoice_target, beforeCountDowns_target, ProbeRuns, hlane]

end

/-- A cycle start after its last choice: the countdowns, then every lane looks for work (R15, R43). -/
theorem startCycle_countDowns (c : Word16) (s : State) :
    startCycle c s =
      wakeAll (countDowns (beforeCountDowns c s).choice (beforeCountDowns c s).afterChoice) := rfl

theorem startCycle_tiers (c : Word16) (s : State) (k : Fin 4) :
    ((startCycle c s).lane k).alertTier = ((beforeCountDowns c s).lane k).alertTier ∧
    ((startCycle c s).lane k).probeTier = ((beforeCountDowns c s).lane k).probeTier ++
      (reorder (beforeCountDowns c s).choice (countingTargets (beforeCountDowns c s).afterChoice true)).filter
        fun t => ((beforeCountDowns c s).afterChoice.target t).lane = k := by
  rw [startCycle_countDowns, (wakeAll_tiers ..).1, (wakeAll_tiers ..).2, ← afterChoice_lane (beforeCountDowns c s)]
  exact countDowns_tiers ..

/-- Settles O16: each step of the cycle start acts on lines, countdowns and tiers that the steps before it left as they
were. -/
theorem cycleStartMovesLinesAndProbes : Obligations.CycleStartMovesLinesAndProbes := by
  refine ⟨fun s c => ⟨fun l => ?_, fun k => ?_⟩, fun s c => ?_⟩
  · rw [startCycle_countDowns, wakeAll_line, countDowns_line, afterChoice_line]
    exact beforeCountDowns_line c s l
  · obtain ⟨new, _, hnodup, hmem, hlane⟩ := beforeCountDowns_gains c s k
    refine ⟨new, ?_, hnodup, hmem⟩
    rw [(startCycle_tiers c s k).1, hlane]
    rfl
  · have hcounting := counting_beforeCountDowns c s
    refine ⟨fun t => ?_, fun k => ?_⟩
    · rw [startCycle_countDowns, wakeAll_target, countDowns_target, afterChoice_target, beforeCountDowns_target]
      exact ⟨fun h => if_pos ((hcounting t).2 h), fun h => if_neg (mt (hcounting t).1 h)⟩
    · obtain ⟨_, _, _, _, hlane⟩ := beforeCountDowns_gains c s k
      refine ⟨_, (startCycle_tiers c s k).2.trans (by rw [hlane]; rfl),
        ((reorder_nodup ..).2 (nodup_countingTargets ..)).filter _, fun t => ?_⟩
      rw [List.mem_filter, mem_reorder, mem_countingTargets, hcounting, afterChoice_target, beforeCountDowns_target]
      simp only [if_true, decide_eq_true_eq, and_assoc]

end Sys2Proof.Machine

/-! PROOF. SET_TARGET_STATE: its checks (R101), what REVIVE and QUARANTINE make of an entry by its State (R101, R102,
R97), and the statement about it. -/

namespace Sys2Proof.Machine

/-! ### The checks of SET_TARGET_STATE (R101) -/

theorem checkSetTargetState_out_of_range {b : Byte} (hb : 32 ≤ b.toNat) (action : Byte) {s : State}
    (hop : s.op ≠ .init) : checkSetTargetState [b, action] s = .error .badValue := by
  simp [checkSetTargetState, OpState.legalAlways_of_ne_init hop, indexField_eq_none.2 hb]

theorem checkSetTargetState_byte (t : Fin 32) {action : Byte} {quarantine : Bool}
    (haction : yesNoField action = some quarantine) {s : State} (hop : s.op ≠ .init) :
    checkSetTargetState [byte t.val, action] s =
      if (s.target t).state = .free then .error .noEntry else .ok (t, quarantine) := by
  simp [checkSetTargetState, OpState.legalAlways_of_ne_init hop, indexField_byte, haction]

theorem runSetTargetState_out_of_range (tag : Byte) {b : Byte} (hb : 32 ≤ b.toNat) (action : Byte) {s : State}
    (hop : s.op ≠ .init) : runSetTargetState tag [b, action] (admitted tag s) = denied tag 0x92 0x06 s := by
  rw [runSetTargetState, checkSetTargetState_out_of_range hb action (s := admitted tag s) hop, carryOut_error]
  rfl

theorem runSetTargetState_of_free {tag action : Byte} {t : Fin 32} {quarantine : Bool}
    (haction : yesNoField action = some quarantine) {s : State} (hop : s.op ≠ .init) (h : (s.target t).state = .free) :
    runSetTargetState tag [byte t.val, action] (admitted tag s) = denied tag 0x92 0x08 s := by
  rw [runSetTargetState, checkSetTargetState_byte t haction (s := admitted tag s) hop, admitted_target, if_pos h,
    carryOut_error]
  rfl

theorem runSetTargetState_of_bound {tag action : Byte} {t : Fin 32} {quarantine : Bool}
    (haction : yesNoField action = some quarantine) {s : State} (hop : s.op ≠ .init) (h : (s.target t).state ≠ .free) :
    runSetTargetState tag [byte t.val, action] s =
      answerTargetState tag t (if quarantine then quarantineTarget t s else reviveTarget t s) := by
  rw [runSetTargetState, checkSetTargetState_byte t haction hop, if_neg h, carryOut_ok]

/-- The reply carries the State and F that the entry comes to (R101). -/
theorem answerTargetState_eq {t : Fin 32} {x : Target} {s : State} (h : s.target t = x) {st : TargetState}
    (hst : x.state = st) (tag : Byte) :
    answerTargetState tag t s = replied tag 0x92 [0x00, byte t.val, st.code, byte x.failures] s := by
  rw [← hst, ← h]
  rfl

theorem exec_setTargetStateRevive {s : State} {tag : Byte} (h : Admits s tag) (t : Byte) :
    exec (.setTargetStateRevive tag t []) s =
      .next (arbitrate (runSetTargetState tag [t, 0x00] (admitted tag s))) := hostCommand_admitted h

theorem exec_setTargetStateQuarantine {s : State} {tag : Byte} (h : Admits s tag) (t : Byte) :
    exec (.setTargetStateQuarantine tag t []) s =
      .next (arbitrate (runSetTargetState tag [t, 0x01] (admitted tag s))) := hostCommand_admitted h

/-! ### REVIVE by the State of the entry (R101) -/

section
variable {t : Fin 32} {s : State}

theorem reviveTarget_of_online (h : (s.target t).state = .online) : reviveTarget t s = s := by
  simp only [reviveTarget, h]

theorem reviveTarget_of_suspect (h : (s.target t).state = .suspect) :
    reviveTarget t s = post (.targetState t .online 0)
      (s.setTarget t { s.target t with state := .online, failures := 0 }) := by
  simp only [reviveTarget, h]
  exact changeTarget_of_state_ne (by simp [h])

/-- The lane of a target whose pending probe is removed and that is told once more (R43). -/
theorem wakeLane_removeProbe (t : Fin 32) (s : State) :
    wakeLane (s.target t).lane (removeProbe t s) =
      s.setLane (s.target t).lane (told s.op { s.lane (s.target t).lane with
        probeTier := (s.lane (s.target t).lane).probeTier.filter (· != t) }) := by
  unfold removeProbe
  dsimp only
  split
  · rw [wakeLane_setLane, wakeLane_setLane, told_told]
  · rename_i hmem
    have hfilter : (s.lane (s.target t).lane).probeTier.filter (· != t) = (s.lane (s.target t).lane).probeTier :=
      List.filter_eq_self.2 fun u hu => bne_iff_ne.2 fun e => hmem (List.contains_iff_mem.2 (e ▸ hu))
    rw [wakeLane_eq, hfilter]

theorem wakeLane_setTarget (i : Fin 4) (x : Target) (s : State) :
    wakeLane i (s.setTarget t x) = (wakeLane i s).setTarget t x := by
  rw [wakeLane_eq, wakeLane_eq]
  rfl

theorem reviveTarget_of_quarantined (h : (s.target t).state = .quarantined) :
    reviveTarget t s = post (.targetState t .online 0)
      { s with
          targets := s.targets.set t { s.target t with state := .online, failures := 0, countdown := 0 }
          lanes := s.lanes.set (s.target t).lane (told s.op { s.lane (s.target t).lane with
            probeTier := (s.lane (s.target t).lane).probeTier.filter (· != t) }) } := by
  have hstate : ((removeProbe t s).target t).state ≠ .online := by
    rw [removeProbe_frame]
    exact fun e => absurd (h.symm.trans e) nofun
  simp only [reviveTarget, h]
  rw [changeTarget_of_state_ne hstate, wakeLane_post, wakeLane_setTarget, wakeLane_removeProbe]
  rfl

/-! ### QUARANTINE by the State of the entry (R102, R97) -/

theorem quarantineTarget_of_active (h : (s.target t).state = .online ∨ (s.target t).state = .suspect) :
    quarantineTarget t s =
      post (.targetState t .quarantined (s.target t).failures) (s.setTarget t (s.target t).quarantine) := by
  have hchange : quarantineTarget t s = changeTarget t (s.target t).quarantine s := by
    rcases h with h | h <;> simp only [quarantineTarget, h]
  rw [hchange]
  refine changeTarget_of_state_ne ?_
  rcases h with h | h <;> rw [h] <;> exact TargetState.noConfusion

/-- The countdown starts afresh unless the probe runs, then the pending probe is removed (R102). -/
theorem quarantineTarget_eq_removeProbe (h : (s.target t).state = .quarantined) :
    quarantineTarget t s = removeProbe t (if probeRunning s t then s
      else s.setTarget t { s.target t with countdown := (s.target t).fullCountdown }) := by
  simp only [quarantineTarget, h]

theorem quarantineTarget_of_quarantined (h : (s.target t).state = .quarantined) :
    quarantineTarget t s = { s with
      targets := s.targets.set t { s.target t with
        countdown := if ProbeRuns s t then (s.target t).countdown else countdownOf (s.target t).probeExponent }
      lanes :=
        if t ∈ (s.lane (s.target t).lane).probeTier then
          s.lanes.set (s.target t).lane (told s.op { s.lane (s.target t).lane with
            probeTier := (s.lane (s.target t).lane).probeTier.filter (· != t) })
        else s.lanes } := by
  have hset : (if probeRunning s t then s
      else s.setTarget t { s.target t with countdown := (s.target t).fullCountdown }) =
        s.setTarget t { s.target t with
          countdown := if ProbeRuns s t then (s.target t).countdown else countdownOf (s.target t).probeExponent } := by
    by_cases hruns : ProbeRuns s t
    · rw [if_pos ((probeRunning_iff s t).2 hruns), if_pos hruns, State.setTarget_target_eq]
    · rw [if_neg (mt (probeRunning_iff s t).1 hruns), if_neg hruns]
      rfl
  rw [quarantineTarget_eq_removeProbe h, hset, removeProbe_eq, State.setTarget_target_self]
  rfl

end

theorem post_target (b : NoticeBody) (s : State) (t : Fin 32) : (post b s).target t = s.target t := by
  rw [post_frame]
  rfl

theorem replaced_target_self {s : State} (t : Fin 32) (x : Target) (lanes : Table Lane 4) :
    ({ s with targets := s.targets.set t x, lanes := lanes } : State).target t = x := Table.get_set_self ..

/-! ### The statement -/

section
variable {s : State} {tag : Byte} (h : Admits s tag) (hop : s.op ≠ .init)
include h hop

theorem exec_setTargetStateRevive_of_bound {t : Fin 32} (hbound : (s.target t).state ≠ .free) :
    exec (.setTargetStateRevive tag (byte t.val) []) s =
      .next (arbitrate (answerTargetState tag t (reviveTarget t (admitted tag s)))) := by
  rw [exec_setTargetStateRevive h,
    runSetTargetState_of_bound (quarantine := false) rfl (s := admitted tag s) hop hbound]
  rfl

theorem exec_setTargetStateQuarantine_of_bound {t : Fin 32} (hbound : (s.target t).state ≠ .free) :
    exec (.setTargetStateQuarantine tag (byte t.val) []) s =
      .next (arbitrate (answerTargetState tag t (quarantineTarget t (admitted tag s)))) := by
  rw [exec_setTargetStateQuarantine h,
    runSetTargetState_of_bound (quarantine := true) rfl (s := admitted tag s) hop hbound]
  rfl

end

/-- Settles O20, by the State of the entry. -/
theorem setTargetStateMovesTarget : Obligations.SetTargetStateMovesTarget := by
  refine ⟨fun s tag hadm hop => ⟨fun t ht => ?_, ?_⟩, fun s tag hadm hop => ⟨fun t ht => ?_, ?_⟩⟩
  · rw [exec_setTargetStateRevive hadm, runSetTargetState_out_of_range tag ht _ hop]
  · rintro t _ rfl
    have hbound := exec_setTargetStateRevive_of_bound hadm hop (t := t)
    cases hst : (s.target t).state with
    | free => rw [exec_setTargetStateRevive hadm, runSetTargetState_of_free (quarantine := false) rfl hop hst]
    | online =>
      rw [hbound (by simp [hst]), reviveTarget_of_online (s := admitted tag s) hst]
      exact next_arbitrate_congr (answerTargetState_eq (s := admitted tag s) rfl hst _)
    | suspect =>
      rw [hbound (by simp [hst]), reviveTarget_of_suspect (s := admitted tag s) hst]
      exact next_arbitrate_congr
        (answerTargetState_eq ((post_target ..).trans (State.setTarget_target_self ..)) rfl _)
    | quarantined =>
      rw [hbound (by simp [hst]), reviveTarget_of_quarantined (s := admitted tag s) hst]
      exact next_arbitrate_congr (answerTargetState_eq ((post_target ..).trans (replaced_target_self ..)) rfl _)
  · rw [exec_setTargetStateQuarantine hadm, runSetTargetState_out_of_range tag ht _ hop]
  · rintro t _ rfl
    have hbound := exec_setTargetStateQuarantine_of_bound hadm hop (t := t)
    refine ⟨fun hst => ?_, fun hst => ?_, fun hst => ?_⟩
    · rw [exec_setTargetStateQuarantine hadm, runSetTargetState_of_free (quarantine := true) rfl hop hst]
    · rw [hbound (by rcases hst with hst | hst <;> simp [hst]),
        quarantineTarget_of_active (s := admitted tag s) hst]
      exact next_arbitrate_congr
        (answerTargetState_eq ((post_target ..).trans (State.setTarget_target_self ..)) rfl _)
    · have hchange := quarantineTarget_of_quarantined (s := admitted tag s) hst
      have hentry := (congrArg (State.target · t) hchange).trans (replaced_target_self ..)
      rw [hbound (by simp [hst]), answerTargetState_eq hentry hst, hchange]
      rfl

end Sys2Proof.Machine

/-! PROOF. Target health with the revival probes (R94, R97, R99): the probe that a lane runs, the invariant by its
parts, and what a happening that moves no target and queues no probe may do. -/

namespace Sys2Proof.Machine

/-! ### The probe that a lane runs (R47) -/

/-- The target whose revival probe the lane runs. -/
def Lane.probed (l : Lane) : Option (Fin 32) :=
  l.txn.bind fun x => if x.work = .probe then some x.target else none

theorem Lane.probed_eq {l : Lane} {x : Transaction} (h : l.txn = some x) :
    l.probed = if x.work = .probe then some x.target else none := by rw [Lane.probed, h, Option.bind_some]

theorem Lane.probed_of_idle {l : Lane} (h : l.txn = none) : l.probed = none := by rw [Lane.probed, h, Option.bind_none]

theorem probeRuns_iff (s : State) (t : Fin 32) : ProbeRuns s t ↔ ∃ i, (s.lane i).probed = some t := by
  refine exists_congr fun i => ?_
  cases htxn : (s.lane i).txn with
  | none => simp [Lane.probed_of_idle htxn]
  | some x => simp [Lane.probed_eq htxn]

/-! ### The invariant by its parts -/

/-- Target `t` may have a revival probe waiting in the PROBE tier of lane `i`. -/
structure ProbeWaits (s : State) (i : Fin 4) (t : Fin 32) : Prop where
  quarantined : (s.target t).state = .quarantined
  lane : (s.target t).lane = i
  idle : ∀ k, (s.lane k).probed ≠ some t

/-- Every target entry is sound, and the PROBE tiers hold probes of QUARANTINED targets, each once. -/
structure TargetsHealthy (s : State) : Prop where
  sound : ∀ t, (s.target t).Sound
  once : ∀ i, (s.lane i).probeTier.Nodup
  waits : ∀ i, ∀ t ∈ (s.lane i).probeTier, ProbeWaits s i t

theorem healthInv_iff {s : State} : HealthInv s ↔ TargetsHealthy s := by
  have hrunning (t : Fin 32) : probeRunning s t = false ↔ ∀ k, (s.lane k).probed ≠ some t := by
    rw [← Bool.not_eq_true, probeRunning_iff, probeRuns_iff, not_exists]
  unfold HealthInv ProbesSound
  simp only [hrunning]
  constructor
  · rintro ⟨hsound, hprobes⟩
    refine ⟨hsound, fun i => (hprobes i).1, fun i t ht => ?_⟩
    obtain ⟨hstate, hlane, hidle⟩ := (hprobes i).2 t ht
    exact ⟨hstate, hlane, hidle⟩
  · intro h
    exact ⟨h.sound, fun i => ⟨h.once i, fun t ht =>
      ⟨(h.waits i t ht).quarantined, (h.waits i t ht).lane, (h.waits i t ht).idle⟩⟩⟩

/-! ### What a happening that queues no probe may do -/

/-- The lane queues no probe and starts none. -/
structure Lane.KeepsProbes (a b : Lane) : Prop where
  probeTier : b.probeTier.Sublist a.probeTier
  probed : ∀ t, b.probed = some t → a.probed = some t

theorem Lane.KeepsProbes.refl (a : Lane) : a.KeepsProbes a := ⟨.refl _, fun _ => id⟩

theorem Lane.KeepsProbes.trans {a b c : Lane} (hab : a.KeepsProbes b) (hbc : b.KeepsProbes c) : a.KeepsProbes c where
  probeTier := hbc.probeTier.trans hab.probeTier
  probed t := hab.probed t ∘ hbc.probed t

/-- Probes leave the tier; the transaction stays. -/
theorem Lane.KeepsProbes.of_sublist {a b : Lane} (ht : b.probeTier.Sublist a.probeTier) (hx : b.txn = a.txn) :
    a.KeepsProbes b where
  probeTier := ht
  probed t := by rw [Lane.probed, hx, Lane.probed]; exact id

theorem Lane.KeepsProbes.of_same {a b : Lane} (ht : b.probeTier = a.probeTier) (hx : b.txn = a.txn) :
    a.KeepsProbes b :=
  .of_sublist (ht ▸ .refl _) hx

/-- No probe runs on the lane any more. -/
theorem Lane.KeepsProbes.of_unprobed {a b : Lane} (ht : b.probeTier = a.probeTier) (hp : b.probed = none) :
    a.KeepsProbes b where
  probeTier := ht ▸ .refl _
  probed t h := by rw [hp] at h; cases h

theorem Lane.keepsProbes_gains (l : Lane) (reads : List (Fin 8)) (woken : Bool) : l.KeepsProbes (l.gains reads woken) :=
  .of_same rfl rfl

theorem Lane.keepsProbes_endTxn (l : Lane) (status : RecordStatus) : l.KeepsProbes (l.endTxn status) := by
  rw [Lane.endTxn_eq]
  exact .of_unprobed rfl rfl

/-- A transaction that is no probe starts. -/
theorem Lane.keepsProbes_begin (l : Lane) {x : Transaction} (h : x.work ≠ .probe) : l.KeepsProbes (l.begin x) :=
  .of_unprobed rfl ((Lane.probed_eq rfl).trans (if_neg h))

theorem Lane.keepsProbes_retry {l : Lane} {x : Transaction} (h : l.txn = some x) (t : Target) :
    l.KeepsProbes (l.retry x t) where
  probeTier := .refl _
  probed u := by rw [Lane.probed_eq h]; exact id

theorem told_keepsProbes (op : OpState) (l : Lane) : l.KeepsProbes (told op l) := by
  rw [told_frame]
  exact .of_same rfl rfl

theorem unlisted_keepsProbes (op : OpState) (p : Fin 48) (l : Lane) : l.KeepsProbes (unlisted op p l) := by
  unfold unlisted
  split
  · refine .trans ?_ (told_keepsProbes op _)
    exact .of_same rfl rfl
  · exact .refl l

/-- A mark on a transaction leaves its target (R25). -/
theorem definitionEndMark_target (s : State) (p : Fin 48) (x : Transaction) :
    (definitionEndMark s p x).target = x.target := by
  unfold definitionEndMark
  split
  · split <;> rfl
  · split <;> rfl
  · rfl
  · rfl

theorem definitionEnded_keepsProbes (s : State) (p : Fin 48) (l : Lane) : l.KeepsProbes (definitionEnded s p l) := by
  refine .trans ?_ (unlisted_keepsProbes s.op p _)
  have hmarked : ({ l with txn := l.txn.map (definitionEndMark s p) } : Lane).probed = l.probed := by
    simp [Lane.probed, Option.bind_map, definitionEndMark_work, definitionEndMark_target]
  exact ⟨.refl _, fun t => by rw [hmarked]; exact id⟩

/-- From `s` to `u` no target moves and no probe is queued or started. -/
structure KeepsProbes (s u : State) : Prop where
  targets : u.targets = s.targets
  lanes : ∀ i, (s.lane i).KeepsProbes (u.lane i)

theorem KeepsProbes.refl (s : State) : KeepsProbes s s := ⟨rfl, fun _ => .refl _⟩

theorem KeepsProbes.trans {s t u : State} (hst : KeepsProbes s t) (htu : KeepsProbes t u) : KeepsProbes s u where
  targets := htu.targets.trans hst.targets
  lanes i := (hst.lanes i).trans (htu.lanes i)

theorem KeepsProbes.of_tables {s u : State} (ht : u.targets = s.targets) (hl : u.lanes = s.lanes) :
    KeepsProbes s u where
  targets := ht
  lanes i := by rw [State.lane, State.lane, hl]; exact .refl _

/-- The lanes gain alert reads or a look for work only. -/
theorem KeepsProbes.of_gains {s u : State} (ht : u.targets = s.targets)
    (hl : ∀ i, ∃ reads woken, u.lane i = (s.lane i).gains reads woken) : KeepsProbes s u where
  targets := ht
  lanes i := by
    obtain ⟨reads, woken, h⟩ := hl i
    rw [h]
    exact Lane.keepsProbes_gains ..

theorem keepsProbes_setLane {s : State} {i : Fin 4} {x : Lane} (h : (s.lane i).KeepsProbes x) :
    KeepsProbes s (s.setLane i x) := by
  refine ⟨rfl, fun k => ?_⟩
  rw [State.setLane_lane]
  split
  · rename_i hk
    exact hk ▸ h
  · exact .refl _

theorem keepsProbes_mapLanes {s u : State} {f : Lane → Lane} (h : ∀ l : Lane, l.KeepsProbes (f l))
    (ht : u.targets = s.targets) (hl : u.lanes = s.lanes.map f) : KeepsProbes s u := by
  refine ⟨ht, fun k => ?_⟩
  rw [State.lane, State.lane, hl, Table.get_map]
  exact h _

theorem KeepsProbes.foldl {α : Type} {f : State → α → State} (hf : ∀ s a, KeepsProbes s (f s a)) (as : List α)
    (s : State) : KeepsProbes s (as.foldl f s) :=
  foldl_keeps (P := KeepsProbes s) (fun u a h => h.trans (hf u a)) as s (.refl s)

/-- Targets stay healthy where no target moves and no probe is queued or started. -/
theorem TargetsHealthy.of_kept {s u : State} (h : TargetsHealthy s) (hk : KeepsProbes s u) : TargetsHealthy u := by
  have htarget (t : Fin 32) : u.target t = s.target t := by rw [State.target, State.target, hk.targets]
  refine ⟨fun t => htarget t ▸ h.sound t, fun i => (h.once i).sublist (hk.lanes i).probeTier, fun i t ht => ?_⟩
  obtain ⟨hstate, hlane, hidle⟩ := h.waits i t ((hk.lanes i).probeTier.subset ht)
  exact { quarantined := htarget t ▸ hstate, lane := htarget t ▸ hlane
          idle := fun k hp => hidle k ((hk.lanes k).probed t hp) }

/-! ### Lanes, blocks, records and notices -/

theorem keepsProbes_wakeLane (i : Fin 4) (s : State) : KeepsProbes s (wakeLane i s) :=
  .of_gains (by rw [wakeLane_frame]) fun k => ⟨_, _, wakeLane_gains k s i⟩

theorem keepsProbes_wakeAll (s : State) : KeepsProbes s (wakeAll s) :=
  .of_gains (by rw [wakeAll_frame]) fun k => ⟨_, _, wakeAll_gains k s⟩

theorem keepsProbes_releaseIf (b : Bool) (s : State) : KeepsProbes s (releaseIf b s) :=
  .of_gains (by rw [releaseIf_frame]) fun k => ⟨_, _, releaseIf_gains k s b⟩

theorem keepsProbes_releaseReservation (r : Reservation) (s : State) : KeepsProbes s (releaseReservation r s) :=
  .of_gains (by rw [releaseReservation_frame]) fun k => ⟨_, _, (releaseReservation_lane r k s).trans (Lane.wake_if ..)⟩

theorem keepsProbes_post (b : NoticeBody) (s : State) : KeepsProbes s (post b s) := by
  rw [post_frame]
  exact .of_tables rfl rfl

theorem keepsProbes_makeReady (r : Reply) (s : State) : KeepsProbes s (makeReady r s) := .of_tables rfl rfl

theorem keepsProbes_finishDrain (others : List Reply) (s : State) : KeepsProbes s (finishDrain others s) := by
  rw [finishDrain_frame]
  exact .of_tables rfl rfl

theorem keepsProbes_afterChoice (s : State) : KeepsProbes s s.afterChoice := by
  rw [afterChoice_frame]
  exact .of_tables rfl rfl

theorem keepsProbes_withChoice {f : List Nat → State → State} (hf : ∀ picks u, KeepsProbes u (f picks u)) (s : State) :
    KeepsProbes s (withChoice f s) :=
  (keepsProbes_afterChoice s).trans (hf ..)

theorem keepsProbes_arbitrate (s : State) : KeepsProbes s (arbitrate s) := by
  rcases arbitrate_cases s with h | ⟨_, _, h⟩ | ⟨_, _, _, _, _, h⟩ | ⟨_, _, _, _, _, _, _, h⟩ |
    ⟨r, rest, _, _, _, _, _, _, h⟩ <;> rw [h]
  · exact .refl s
  · exact .of_tables rfl rfl
  · exact .of_tables rfl rfl
  · exact .of_tables rfl rfl
  · exact .of_gains (by rw [takeRecord_frame]) fun k => ⟨_, _, (takeRecord_lane r rest k s).trans (Lane.wake_if ..)⟩

/-! ### Reports, alert lines and recovery -/

theorem TellsLanes.keepsProbes {s u : State} {held : Nat} {reads : Fin 4 → List (Fin 8)} (h : TellsLanes s u held reads)
    (ht : u.targets = s.targets) : KeepsProbes s u := by
  obtain ⟨_, _, freed, _, hlanes⟩ := h
  exact .of_gains ht fun k => ⟨_, _, hlanes k⟩

theorem keepsProbes_reportOutcome (x : Transaction) (held : Reservation) (f : Final) (s : State) :
    KeepsProbes s (reportOutcome x held f s) := by
  unfold reportOutcome
  split
  · split
    · exact keepsProbes_releaseReservation ..
    · exact (tellsLanes_pollCompletion ..).keepsProbes (by rw [pollCompletion_frame])
  · exact (tellsLanes_endAlertRead ..).keepsProbes (by rw [endAlertRead_frame])
  · exact (tellsLanes_endRunningJob ..).keepsProbes (by rw [endRunningJob_frame])
  · exact .refl s

theorem keepsProbes_trigger (l : Fin 8) (s : State) : KeepsProbes s (trigger l s) :=
  .of_gains (by rw [trigger_frame]) fun k => ⟨_, trigger_gains l s k⟩

theorem keepsProbes_setLine (s : State) (l : Fin 8) (x : Line) : KeepsProbes s (s.setLine l x) := .of_tables rfl rfl

theorem keepsProbes_settleAlert (l : Fin 8) (s : State) : KeepsProbes s (settleAlert l s) :=
  .of_gains (by rw [settleAlert_frame]) fun k => ⟨_, _, moveLine_gains k (addRecord _ s) l⟩

theorem keepsProbes_takeLevel (l : Fin 8) (s : State) : KeepsProbes s (takeLevel l s) := by
  unfold takeLevel
  dsimp only
  refine (keepsProbes_setLine s l { s.line l with level := inputActive s l }).trans ?_
  split
  · unfold activeEdge
    split
    · exact keepsProbes_trigger ..
    · split
      · exact keepsProbes_setLine ..
      · exact .refl _
  · exact .refl _

theorem keepsProbes_enableLine (q : AlertRequest) (s : State) : KeepsProbes s (enableLine q s) := by
  refine (keepsProbes_setLine s q.line ((s.line q.line).armedWith q (s.alertPins.get q.line))).trans ?_
  unfold enableLine levelTrigger
  split
  · exact keepsProbes_trigger ..
  · exact .refl _

theorem keepsProbes_disableLine (l : Fin 8) (s : State) : KeepsProbes s (disableLine l s) := by
  cases hs : (s.line l).state with
  | off => rw [disableLine_off hs]; exact .refl s
  | armed => rw [disableLine_waiting (.inl hs)]; exact keepsProbes_setLine ..
  | holdoff => rw [disableLine_waiting (.inr hs)]; exact keepsProbes_setLine ..
  | pending =>
    rw [disableLine_pending hs]
    refine (keepsProbes_setLine s l (s.line l).turnedOff).trans (.trans ?_ (keepsProbes_wakeLane ..))
    exact keepsProbes_setLane (.of_same rfl rfl)
  | running => rw [disableLine_running hs]; exact keepsProbes_setLine ..

theorem keepsProbes_evaluateLines (picks : List Nat) (s : State) : KeepsProbes s (evaluateLines picks s) := by
  refine .trans ?_ (.foldl (fun u l => keepsProbes_trigger l u) ..)
  exact .of_tables rfl rfl

theorem keepsProbes_recoveredIdle (i : Fin 4) (s : State) : KeepsProbes s (recoveredIdle i s) := by
  have hidle : KeepsProbes s (s.setLane i { s.lane i with state := .idle, waitingResets := [], fromFault := false }) :=
    keepsProbes_setLane (.of_same rfl rfl)
  unfold recoveredIdle
  dsimp only
  refine .trans ?_ (keepsProbes_wakeLane ..)
  split
  · exact hidle.trans (keepsProbes_post ..)
  · exact hidle

theorem keepsProbes_faultLane (i : Fin 4) (cause : FaultCause) (posted : LaneCause) (s : State) :
    KeepsProbes s (faultLane i cause posted s) := by
  refine .trans ?_ (keepsProbes_post ..)
  exact keepsProbes_setLane (.of_same rfl rfl)

/-! ### Jobs that join and leave a queue (R68, R71) -/

theorem keepsProbes_setJobs (i : Fin 4) (jobs : List Job) (s : State) :
    KeepsProbes s (s.setLane i { s.lane i with jobs := jobs }) :=
  keepsProbes_setLane (.of_same rfl rfl)

theorem keepsProbes_endQueuedJob (j : Job) (status : RecordStatus) (s : State) :
    KeepsProbes s (endQueuedJob j status s) := by
  refine .trans ?_ (keepsProbes_releaseIf ..)
  exact .of_tables rfl rfl

theorem keepsProbes_submit (tag : Byte) (q : JobRequest) (s : State) : KeepsProbes s (submit tag q s) := by
  rw [submit_eq]
  refine .trans (keepsProbes_setLane (i := q.lane s) ?_) (.of_tables rfl rfl)
  refine .trans ?_ (told_keepsProbes ..)
  exact .of_same rfl rfl

theorem keepsProbes_cancelJob (i : Fin 4) (number : Nat) (s : State) : KeepsProbes s (cancelJob i number s) := by
  unfold cancelJob
  split
  · refine .trans ?_ (keepsProbes_wakeLane ..)
    exact (keepsProbes_setJobs ..).trans (keepsProbes_endQueuedJob ..)
  · exact .refl s

theorem keepsProbes_flushLane (tag : Byte) (i : Fin 4) (s : State) : KeepsProbes s (flushLane tag i s) := by
  have hflush : KeepsProbes s (flushJobs i s) :=
    (keepsProbes_setJobs i [] s).trans (.foldl (fun u j => keepsProbes_endQueuedJob j .cancelled u) ..)
  refine .trans ?_ (keepsProbes_finishDrain ..)
  split
  · exact hflush
  · exact hflush.trans (keepsProbes_wakeLane ..)

theorem keepsProbes_drainHead (i : Fin 4) (j : Job) (rest : List Job) (s : State) :
    KeepsProbes s (drainHead i j rest s) := by
  refine .trans ?_ (keepsProbes_endQueuedJob ..)
  exact (keepsProbes_setJobs i rest s).trans (.of_tables rfl rfl)

/-! ### Heads that are no probes (R44 to R47), and pending probes that are removed (R43) -/

/-- The claim of a block that a start makes (R107) queues no probe. -/
theorem keepsProbes_claim (x : Transaction) (i : Fin 4) (s : State) :
    KeepsProbes (s.setLane i ((s.lane i).begin x)) (startTransaction i x s) := by
  unfold startTransaction
  dsimp only
  split
  · exact .of_tables rfl rfl
  · exact .refl _

/-- A head that is no probe is examined: it closes its tier, waits or starts (R45 to R47). -/
theorem keepsProbes_examineHead {i : Fin 4} {x : Transaction} {s : State} (hx : x.work ≠ .probe)
    {close start : State → State} (hclose : KeepsProbes s (close s)) (hstart : KeepsProbes s (start s)) :
    KeepsProbes s (examineHead i x close start s).state := by
  unfold examineHead
  split
  · exact hclose
  · split
    · exact (hstart.trans (keepsProbes_setLane (Lane.keepsProbes_begin _ hx))).trans (keepsProbes_claim ..)
    · exact .refl s

theorem keepsProbes_lookAlert (i : Fin 4) (s : State) : KeepsProbes s (lookAlert i s).state := by
  have htier (tier : List (Fin 8)) : KeepsProbes s (s.setLane i { s.lane i with alertTier := tier }) :=
    keepsProbes_setLane (.of_same rfl rfl)
  unfold lookAlert
  split
  · dsimp only
    split
    · split
      · exact (htier _).trans (keepsProbes_settleAlert ..)
      · exact .refl s
    · exact keepsProbes_examineHead (by simp [newTransaction]) (keepsProbes_setLane (.of_same rfl rfl))
        ((htier _).trans (keepsProbes_setLine ..))
  · exact .refl s

theorem keepsProbes_skipQuarantined (i : Fin 4) (ps : List (Fin 48)) (s : State) :
    KeepsProbes s (skipQuarantined i ps s) := by
  induction ps generalizing s with
  | nil => exact .refl s
  | cons p rest ih =>
    unfold skipQuarantined
    split
    · refine .trans ?_ (ih _)
      refine .trans ?_ (keepsProbes_post ..)
      have hskips : KeepsProbes s (s.setLane i { s.lane i with workList := rest }) :=
        keepsProbes_setLane (.of_same rfl rfl)
      exact hskips.trans (.of_tables rfl rfl)
    · exact .refl s

theorem keepsProbes_lookSchedule (i : Fin 4) (s : State) : KeepsProbes s (lookSchedule i s).state := by
  unfold lookSchedule
  split
  · exact .refl s
  · refine (keepsProbes_skipQuarantined i (s.lane i).workList s).trans ?_
    unfold lookPoll
    split
    · exact keepsProbes_examineHead (by simp [newTransaction]) (keepsProbes_setLane (.of_same rfl rfl))
        (keepsProbes_setLane (.of_same rfl rfl))
    · exact .refl _

theorem keepsProbes_lookJob (i : Fin 4) (s : State) : KeepsProbes s (lookJob i s).state := by
  unfold lookJob
  split
  · split
    · split
      · exact (keepsProbes_setJobs ..).trans (keepsProbes_endQueuedJob ..)
      · exact .refl s
    · exact keepsProbes_examineHead (by simp [newTransaction]) (keepsProbes_setLane (.of_same rfl rfl))
        (keepsProbes_setJobs ..)
  · exact .refl s

theorem keepsProbes_removeProbe (t : Fin 32) (s : State) : KeepsProbes s (removeProbe t s) := by
  unfold removeProbe
  dsimp only
  split
  · refine .trans ?_ (keepsProbes_wakeLane ..)
    exact keepsProbes_setLane (.of_sublist List.filter_sublist rfl)
  · exact .refl s

end Sys2Proof.Machine

/-! PROOF. What health makes of target entries and PROBE tiers: outcomes (R95 to R97, R100), starts of probes (R47),
probe countdowns (R99), REVIVE and QUARANTINE (R101, R102), STOP (R155) and resets (R152). -/

namespace Sys2Proof.Machine

/-! ### Sound entries by their State (R1, R94, R97) -/

section
variable {t : Target}

theorem Target.sound_iff_of_free (h : t.state = .free) : t.Sound ↔ t = Target.free := by
  simp only [Target.Sound, h]

theorem Target.sound_iff_of_online (h : t.state = .online) : t.Sound ↔ t.failures = 0 ∧ t.countdown = 0 := by
  simp only [Target.Sound, h]

theorem Target.sound_iff_of_suspect (h : t.state = .suspect) :
    t.Sound ↔ 1 ≤ t.failures ∧ t.failures ≤ 15 ∧ t.countdown = 0 := by
  simp only [Target.Sound, h]

theorem Target.sound_iff_of_quarantined (h : t.state = .quarantined) :
    t.Sound ↔ t.failures ≤ 15 ∧ t.countdown ≤ t.fullCountdown := by
  simp only [Target.Sound, h]

theorem Target.sound_free : Target.free.Sound := (Target.sound_iff_of_free rfl).2 rfl

theorem Target.Sound.failures_le (h : t.Sound) : t.failures ≤ 15 := by
  cases hst : t.state with
  | free => rw [(Target.sound_iff_of_free hst).1 h]; exact Nat.zero_le _
  | online => rw [((Target.sound_iff_of_online hst).1 h).1]; exact Nat.zero_le _
  | suspect => exact ((Target.sound_iff_of_suspect hst).1 h).2.1
  | quarantined => exact ((Target.sound_iff_of_quarantined hst).1 h).1

/-- Only a QUARANTINED entry has a countdown (R97). -/
theorem Target.Sound.countdown_eq_zero (h : t.Sound) (hq : t.state ≠ .quarantined) : t.countdown = 0 := by
  cases hst : t.state with
  | free => rw [(Target.sound_iff_of_free hst).1 h]; rfl
  | online => exact ((Target.sound_iff_of_online hst).1 h).2
  | suspect => exact ((Target.sound_iff_of_suspect hst).1 h).2.2
  | quarantined => exact absurd hst hq

theorem Target.Sound.countdown_le (h : t.Sound) : t.countdown ≤ t.fullCountdown := by
  by_cases hst : t.state = .quarantined
  · exact ((Target.sound_iff_of_quarantined hst).1 h).2
  · rw [h.countdown_eq_zero hst]
    exact Nat.zero_le _

/-- The counters of an entry say nothing of its health. -/
theorem Target.Sound.withCounts (h : t.Sound) (hf : t.state ≠ .free) (c : TargetCounts) :
    { t with counts := c }.Sound := by
  rcases t with ⟨state, _⟩
  cases state with
  | free => exact absurd rfl hf
  | online | suspect | quarantined => exact h

/-- A QUARANTINED entry may have any F up to 15 and any countdown up to 2^k (R97). -/
theorem Target.sound_of_quarantined (h : t.state = .quarantined) (hf : t.failures ≤ 15)
    (hc : t.countdown ≤ t.fullCountdown) : t.Sound := (Target.sound_iff_of_quarantined h).2 ⟨hf, hc⟩

theorem Target.sound_quarantine (h : t.failures ≤ 15) : t.quarantine.Sound :=
  Target.sound_of_quarantined rfl h le_rfl

/-! ### Entries after an outcome (R95 to R97, R100) -/

theorem failuresAfter_le {f : Nat} (h : f ≤ 15) (status : RecordStatus) : failuresAfter status f ≤ 15 := by
  cases status with
  | ok | dataNack => exact Nat.zero_le _
  | addrNack | stretchTimeout => exact countUp_le h
  | arbLost | busStuck | aborted | cancelled | quarantined => exact h

/-- A failed transaction leaves F above 0 (R95). -/
theorem one_le_countUp (f : Nat) : 1 ≤ countUp 15 f := by unfold countUp; split <;> omega

/-- An ONLINE or SUSPECT entry after an outcome (R95, R96). -/
theorem Target.Sound.moved (h : t.Sound) (hf : t.state ≠ .free) (hq : t.state ≠ .quarantined) (status : RecordStatus) :
    ((t.counted status).moved status).Sound := by
  have hcountdown := h.countdown_eq_zero hq
  have hfailures := failuresAfter_le h.failures_le status
  cases status with
  | ok | dataNack => exact (Target.sound_iff_of_online rfl).2 ⟨rfl, hcountdown⟩
  | addrNack | stretchTimeout =>
    unfold Target.moved
    dsimp only
    split
    · exact Target.sound_quarantine hfailures
    · exact (Target.sound_iff_of_suspect rfl).2 ⟨one_le_countUp _, hfailures, hcountdown⟩
  | arbLost | busStuck | aborted | cancelled | quarantined => exact h.withCounts hf _

/-- A QUARANTINED entry after the end of its own revival probe (R100). -/
theorem Target.Sound.probed (h : t.Sound) (hq : t.state = .quarantined) (status : RecordStatus) :
    ((t.counted status).probed status).Sound := by
  have hfailures := failuresAfter_le h.failures_le status
  cases status with
  | ok | dataNack => exact (Target.sound_iff_of_online rfl).2 ⟨rfl, rfl⟩
  | addrNack | stretchTimeout | arbLost | busStuck | aborted | cancelled | quarantined =>
    exact Target.sound_of_quarantined hq hfailures le_rfl

theorem Target.Sound.afterOutcome (h : t.Sound) (isProbe : Bool) (status : RecordStatus) :
    (t.afterOutcome isProbe status).Sound := by
  by_cases hf : t.state = .free
  · have hsame : t.afterOutcome isProbe status = t := by simp [Target.afterOutcome, hf]
    rwa [hsame]
  · by_cases hq : t.state = .quarantined
    · rw [Target.afterOutcome_of_quarantined hq]
      split
      · exact h.probed hq status
      · exact Target.sound_of_quarantined hq (failuresAfter_le h.failures_le status) h.countdown_le
    · rw [Target.afterOutcome_of_active hf hq]
      exact h.moved hf hq status

/-- An outcome of another transaction than its revival probe leaves an entry QUARANTINED (R100). -/
theorem Target.afterOutcome_quarantined (hq : t.state = .quarantined) (status : RecordStatus) :
    (t.afterOutcome false status).state = .quarantined := by
  rw [Target.afterOutcome_of_quarantined hq]
  exact hq

end

/-! ### An entry or a lane is replaced -/

theorem keepsProbes_changeTarget (t : Fin 32) (x : Target) (s : State) :
    KeepsProbes (s.setTarget t x) (changeTarget t x s) := by
  rw [changeTarget_frame]
  exact .of_tables rfl rfl

theorem TargetsHealthy.next {r : Look} {examine : State → Look} (hr : TargetsHealthy r.state)
    (hnext : ∀ u, KeepsProbes u (examine u).state) : TargetsHealthy (r.next examine).state := by
  cases r with
  | started u | settled u => exact hr
  | passed u => exact TargetsHealthy.of_kept hr (hnext u)

section
variable {s : State} (h : TargetsHealthy s)
include h

theorem TargetsHealthy.absent_of_state {t : Fin 32} (hq : (s.target t).state ≠ .quarantined) (i : Fin 4) :
    t ∉ (s.lane i).probeTier := fun ht => hq (h.waits i t ht).quarantined

/-- A target whose probe runs has none waiting (R99). -/
theorem TargetsHealthy.absent_of_probed {t : Fin 32} {k : Fin 4} (hk : (s.lane k).probed = some t) (i : Fin 4) :
    t ∉ (s.lane i).probeTier := fun ht => (h.waits i t ht).idle k hk

/-- An entry is replaced: if its probe waits, it stays QUARANTINED and on its lane. -/
theorem TargetsHealthy.setTarget {t : Fin 32} {x : Target} (hx : x.Sound)
    (hwaits : ∀ i, t ∈ (s.lane i).probeTier → x.state = .quarantined ∧ x.lane = (s.target t).lane) :
    TargetsHealthy (s.setTarget t x) where
  sound u := by
    rw [State.setTarget_target]
    split
    · exact hx
    · exact h.sound u
  once := h.once
  waits i u hu := by
    obtain ⟨hstate, hlane, hidle⟩ := h.waits i u hu
    by_cases hut : u = t
    · subst hut
      obtain ⟨hstate', hlane'⟩ := hwaits i hu
      exact { quarantined := by rw [State.setTarget_target_self]; exact hstate'
              lane := by rw [State.setTarget_target_self]; exact hlane'.trans hlane
              idle := hidle }
    · exact { quarantined := by rw [State.setTarget_target_ne _ _ _ _ hut]; exact hstate
              lane := by rw [State.setTarget_target_ne _ _ _ _ hut]; exact hlane
              idle := hidle }

/-- An entry whose probe does not wait may change as it likes. -/
theorem TargetsHealthy.changeTarget {t : Fin 32} {x : Target} (hx : x.Sound) (habsent : ∀ i, t ∉ (s.lane i).probeTier) :
    TargetsHealthy (changeTarget t x s) :=
  (h.setTarget hx fun i hi => absurd hi (habsent i)).of_kept (keepsProbes_changeTarget t x s)

/-- The head of a PROBE tier starts (R47). -/
theorem TargetsHealthy.startProbe {i : Fin 4} {t : Fin 32} {rest : List (Fin 32)} {l : Lane}
    (htier : (s.lane i).probeTier = t :: rest) (hrest : l.probeTier = rest) (hprobed : l.probed = some t) :
    TargetsHealthy (s.setLane i l) := by
  have hnodup := h.once i
  rw [htier] at hnodup
  obtain ⟨hnot, _⟩ := List.nodup_cons.1 hnodup
  have hsub (k : Fin 4) : ((s.setLane i l).lane k).probeTier.Sublist (s.lane k).probeTier := by
    rw [State.setLane_lane]
    split
    · rename_i hk
      rw [hk, htier, hrest]
      exact List.sublist_cons_self ..
    · exact .refl _
  refine ⟨h.sound, fun k => (h.once k).sublist (hsub k), fun k u hu => ?_⟩
  obtain ⟨hstate, hlane, hidle⟩ := h.waits k u ((hsub k).subset hu)
  refine ⟨hstate, hlane, fun m hm => ?_⟩
  rw [State.setLane_lane] at hm
  split at hm
  · obtain rfl := Option.some.inj (hprobed.symm.trans hm)
    have hk : k = i := hlane.symm.trans (h.waits i t (htier ▸ List.mem_cons_self)).lane
    rw [hk, State.setLane_lane_self, hrest] at hu
    exact hnot hu
  · exact hidle m hm

/-! ### The end of a transaction (R55) -/

theorem TargetsHealthy.targetOutcome {t : Fin 32} {isProbe : Bool}
    (hprobe : isProbe = true → ∀ i, t ∉ (s.lane i).probeTier) (status : RecordStatus) :
    TargetsHealthy (targetOutcome t isProbe status s) := by
  have hset : TargetsHealthy (s.setTarget t ((s.target t).afterOutcome isProbe status)) := by
    refine h.setTarget ((h.sound t).afterOutcome isProbe status) fun i hi => ⟨?_, ?_⟩
    · cases isProbe with
      | true => exact absurd hi (hprobe rfl i)
      | false => exact Target.afterOutcome_quarantined (h.waits i t hi).quarantined status
    · exact (Target.sameBinding_afterOutcome ..).lane
  refine hset.of_kept (.of_gains ?_ fun k => ⟨_, _, targetOutcome_gains k s t isProbe status⟩)
  rw [targetOutcome_frame]
  rfl

theorem targetsHealthy_endTransaction (i : Fin 4) (f : Final) : TargetsHealthy (endTransaction i f s) := by
  cases htxn : (s.lane i).txn with
  | none =>
    simp only [endTransaction, htxn]
    exact h
  | some x =>
    have hended : KeepsProbes s (s.setLane i ((s.lane i).endTxn f.status)) :=
      keepsProbes_setLane (Lane.keepsProbes_endTxn ..)
    have houtcome : TargetsHealthy (beforeReport i x f s) := by
      refine (h.of_kept hended).targetOutcome (fun hprobe k hk => ?_) f.status
      have hwork : x.work = .probe := by simpa using hprobe
      exact h.absent_of_probed ((Lane.probed_eq htxn).trans (if_pos hwork)) k ((hended.lanes k).probeTier.subset hk)
    rw [endTransaction_eq htxn]
    exact houtcome.of_kept ((keepsProbes_reportOutcome ..).trans (keepsProbes_wakeLane ..))

/-! ### Looking for work (R42 to R47) -/

theorem targetsHealthy_lookProbe (i : Fin 4) : TargetsHealthy (lookProbe i s).state := by
  unfold lookProbe
  split
  · rename_i t rest _ htier
    unfold examineHead
    split
    · exact h.of_kept (keepsProbes_setLane (.of_same rfl rfl))
    · split
      · have hclaim := keepsProbes_claim (newTransaction s .probe 0 t .probe 0 0 []) i
          (s.setLane i { s.lane i with probeTier := rest })
        rw [State.setLane_lane_self, State.setLane_setLane] at hclaim
        exact (h.startProbe htier rfl rfl).of_kept hclaim
      · exact h
  · exact h

theorem targetsHealthy_lookOnce (i : Fin 4) : TargetsHealthy (lookOnce i s).state :=
  .next (.next (.next (targetsHealthy_lookProbe h i) (keepsProbes_lookAlert i)) (keepsProbes_lookSchedule i))
    (keepsProbes_lookJob i)

theorem targetsHealthy_look (i : Fin 4) : TargetsHealthy (look i s) := by
  have hpasses (fuel : Nat) : ∀ u, TargetsHealthy u → TargetsHealthy (lookPasses i fuel u) := by
    induction fuel with
    | zero => exact fun _ hu => hu
    | succ fuel ih =>
      intro u hu
      have honce := targetsHealthy_lookOnce hu i
      unfold lookPasses
      split <;> rename_i v hv <;> rw [hv] at honce
      · exact honce
      · exact ih v honce
      · exact honce
  exact (hpasses _ s h).of_kept (keepsProbes_setLane (.of_same rfl rfl))

/-! ### Probe countdowns and cycle starts (R15, R99) -/

theorem targetsHealthy_countDowns (picks : List Nat) : TargetsHealthy (countDowns picks s) := by
  have hprobed (k : Fin 4) : ((countDowns picks s).lane k).probed = (s.lane k).probed := by
    obtain ⟨_, _, _, hlane⟩ := countDowns_sameButTiers picks s k
    rw [hlane]
    rfl
  have hwaits {i : Fin 4} {t : Fin 32} (ht : ProbeWaits s i t) : ProbeWaits (countDowns picks s) i t := by
    obtain ⟨hstate, hlane, hidle⟩ := ht
    refine ⟨?_, ?_, fun k => hprobed k ▸ hidle k⟩ <;> rw [countDowns_target] <;> split <;> assumption
  have hnew {i : Fin 4} {t : Fin 32}
      (ht : t ∈ (reorder picks (countingTargets s true)).filter fun t => (s.target t).lane = i) :
      ProbeWaits s i t ∧ ∀ k, t ∉ (s.lane k).probeTier := by
    rw [List.mem_filter, mem_reorder, mem_countingTargets, counting_iff] at ht
    obtain ⟨⟨⟨hstate, _, habsent, hidle⟩, _⟩, hlane⟩ := ht
    rw [probeRuns_iff, not_exists] at hidle
    exact ⟨⟨hstate, of_decide_eq_true hlane, hidle⟩, habsent⟩
  refine ⟨fun t => ?_, fun i => ?_, fun i t ht => ?_⟩
  · rw [countDowns_target]
    split
    · rename_i hcounting
      have hcountdown := (h.sound t).countdown_le
      exact Target.sound_of_quarantined ((counting_iff s t).1 hcounting).1 (h.sound t).failures_le
        ((Nat.sub_le ..).trans hcountdown)
    · exact h.sound t
  · rw [(countDowns_tiers picks s i).2]
    refine (h.once i).append (((reorder_nodup ..).2 (nodup_countingTargets s true)).filter _) ?_
    exact fun t hold ht => (hnew ht).2 i hold
  · rw [(countDowns_tiers picks s i).2, List.mem_append] at ht
    exact hwaits (ht.elim (h.waits i t) fun ht => (hnew ht).1)

theorem targetsHealthy_startCycle (c : Word16) : TargetsHealthy (startCycle c s) := by
  have hbefore : KeepsProbes s (beforeCountDowns c s) := by
    refine ⟨Table.ext_get fun t => beforeCountDowns_target c s t, fun k => ?_⟩
    obtain ⟨_, _, _, _, hlane⟩ := beforeCountDowns_gains c s k
    rw [hlane]
    exact .of_same rfl rfl
  have hdown := targetsHealthy_countDowns (h.of_kept (hbefore.trans (keepsProbes_afterChoice _)))
    (beforeCountDowns c s).choice
  exact hdown.of_kept (keepsProbes_wakeAll _)

/-! ### Pending probes that are removed: UNBIND_TARGET, REVIVE and QUARANTINE (R6, R101, R102) -/

/-- After the removal the target has no probe waiting. -/
theorem TargetsHealthy.absent_removeProbe (t : Fin 32) (i : Fin 4) : t ∉ ((removeProbe t s).lane i).probeTier := by
  intro hi
  have hlane := (h.waits i t (((keepsProbes_removeProbe t s).lanes i).probeTier.subset hi)).lane
  have hremoved : t ∉ ((wakeLane i (removeProbe t s)).lane i).probeTier := by
    rw [← hlane, wakeLane_removeProbe, State.setLane_lane_self, told_frame]
    simp
  rw [wakeLane_gains] at hremoved
  exact hremoved hi

theorem targetsHealthy_reviveTarget (t : Fin 32) : TargetsHealthy (reviveTarget t s) := by
  unfold reviveTarget
  dsimp only
  split
  · exact h
  · exact h
  · rename_i hst
    have hcountdown := (h.sound t).countdown_eq_zero (by simp [hst])
    exact h.changeTarget ((Target.sound_iff_of_online rfl).2 ⟨rfl, hcountdown⟩) (h.absent_of_state (by simp [hst]))
  · have hremoved := h.of_kept (keepsProbes_removeProbe t s)
    refine TargetsHealthy.of_kept ?_ (keepsProbes_wakeLane ..)
    exact hremoved.changeTarget ((Target.sound_iff_of_online rfl).2 ⟨rfl, rfl⟩) (h.absent_removeProbe t)

theorem targetsHealthy_quarantineTarget (t : Fin 32) : TargetsHealthy (quarantineTarget t s) := by
  have hfailures := (h.sound t).failures_le
  cases hst : (s.target t).state with
  | free => simpa only [quarantineTarget, hst] using h
  | online | suspect =>
    have hchange := h.changeTarget (Target.sound_quarantine hfailures) (h.absent_of_state (t := t) (by simp [hst]))
    simpa only [quarantineTarget, hst] using hchange
  | quarantined =>
    have hset : TargetsHealthy (s.setTarget t { s.target t with countdown := (s.target t).fullCountdown }) :=
      h.setTarget (Target.sound_of_quarantined hst hfailures le_rfl) fun _ _ => ⟨hst, rfl⟩
    rw [quarantineTarget_eq_removeProbe hst]
    refine TargetsHealthy.of_kept ?_ (keepsProbes_removeProbe ..)
    split
    · exact h
    · exact hset

/-! ### Counters, STOP and resets (R149, R155, R152) -/

theorem targetsHealthy_clearTargets : TargetsHealthy (clearTargets s) := by
  have htarget (t : Fin 32) : (clearTargets s).target t = { s.target t with counts := .zero } := Table.get_map ..
  refine ⟨fun t => ?_, h.once, fun i t ht => ?_⟩
  · rw [htarget]
    by_cases hf : (s.target t).state = .free
    · rw [(Target.sound_iff_of_free hf).1 (h.sound t)]
      exact Target.sound_free
    · exact (h.sound t).withCounts hf _
  · obtain ⟨hstate, hlane, hidle⟩ := h.waits i t ht
    exact ⟨by rw [htarget]; exact hstate, by rw [htarget]; exact hlane, hidle⟩

theorem targetsHealthy_clearClass (c : CounterClass) : TargetsHealthy (clearClass c s) := by
  have hlanes (u : State) : KeepsProbes u (clearLanes u) :=
    keepsProbes_mapLanes (f := fun l => { l with counts := .zero }) (fun _ => .of_same rfl rfl) rfl rfl
  cases c with
  | all => exact (targetsHealthy_clearTargets h).of_kept (.trans (hlanes _) (.of_tables rfl rfl))
  | target => exact targetsHealthy_clearTargets h
  | lane => exact h.of_kept (hlanes s)
  | poll | alert | result | host => exact h.of_kept (.of_tables rfl rfl)

/-- STOP empties the PROBE tiers, and the countdowns of the probes removed start afresh (R64, R105). -/
theorem targetsHealthy_stoppedPart (tag : Byte) : TargetsHealthy (stoppedPart tag s) := by
  have htier (i : Fin 4) : ((stoppedPart tag s).lane i).probeTier = [] := by
    rw [State.lane, stoppedPart, Table.get_map]
    rfl
  have htarget (t : Fin 32) : (stoppedPart tag s).target t = stoppedTarget s t := Table.get_ofFn ..
  refine ⟨fun t => ?_, fun i => htier i ▸ List.nodup_nil, fun i t ht => ?_⟩
  · rw [htarget, stoppedTarget]
    split
    · rename_i hpending
      obtain ⟨i, hi⟩ := (probePending_iff s t).1 hpending
      exact Target.sound_of_quarantined (h.waits i t hi).quarantined (h.sound t).failures_le le_rfl
    · exact h.sound t
  · rw [htier] at ht
    exact absurd ht List.not_mem_nil

end

/-- Right after a reset every entry is FREE (R152). -/
theorem targetsHealthy_of_reset {u : State} (htargets : u.targets = State.reset.targets)
    (hlanes : u.lanes = State.reset.lanes) : TargetsHealthy u := by
  have htarget (t : Fin 32) : u.target t = Target.free := by
    rw [State.target, htargets]
    exact Table.get_replicate ..
  have htier (i : Fin 4) : (u.lane i).probeTier = [] := by
    rw [State.lane, hlanes]
    exact congrArg Lane.probeTier (Table.get_replicate ..)
  refine ⟨fun t => htarget t ▸ Target.sound_free, fun i => htier i ▸ List.nodup_nil, fun i t ht => ?_⟩
  rw [htier] at ht
  exact absurd ht List.not_mem_nil

end Sys2Proof.Machine

/-! PROOF. Target health (R94, R97, R99) at every command and event, and its step lemma. -/

namespace Sys2Proof.Machine

theorem targetsHealthy_ofTables : OfTables TargetsHealthy :=
  fun _ _ h htargets _ hlanes _ => h.of_kept (.of_tables htargets hlanes)

/-! ### Admitted commands (R142) -/

theorem boundTarget_sound (lane : Fin 4) (address : BitVec 7) (width : Fin 3) (retry : Fin 4) (threshold : Fin 16)
    (probe : Fin 8) : (boundTarget lane address width retry threshold probe).Sound :=
  (Target.sound_iff_of_online rfl).2 ⟨rfl, rfl⟩

/-- The entry that an accepted BIND_TARGET makes (R4). -/
theorem checkBindTarget_sound {body : List Byte} {s : State} {a : Fin 32 × Target}
    (h : checkBindTarget body s = .ok a) : a.2.Sound := by
  unfold checkBindTarget at h
  split at h
  · split at h
    · split at h
      · split_ifs at h
        cases h
        exact boundTarget_sound ..
      · cases h
    · cases h
  · cases h

section
variable {s : State} (h : TargetsHealthy s) (tag : Byte) (body : List Byte)
include h

theorem targetsHealthy_makeReady (r : Reply) : TargetsHealthy (makeReady r s) := targetsHealthy_ofTables.makeReady h r

theorem targetsHealthy_carryOut {α : Type} {kind : Byte} {checked : Checked α} {effect : α → State → State}
    (heffect : ∀ a, checked = .ok a → TargetsHealthy (effect a s)) :
    TargetsHealthy (carryOut tag kind checked effect s) :=
  targetsHealthy_ofTables.carryOut h heffect

theorem targetsHealthy_carryOut_of_kept {α : Type} {kind : Byte} {checked : Checked α} {effect : α → State → State}
    (heffect : ∀ a, KeepsProbes s (effect a s)) : TargetsHealthy (carryOut tag kind checked effect s) :=
  targetsHealthy_carryOut h tag fun a _ => h.of_kept (heffect a)

theorem targetsHealthy_runBindTarget : TargetsHealthy (runBindTarget tag body s) := by
  refine targetsHealthy_carryOut h tag fun a ha => targetsHealthy_makeReady ?_ _
  exact h.changeTarget (checkBindTarget_sound ha) (h.absent_of_state (by simp [(checkBindTarget_ok ha).1]))

theorem targetsHealthy_runUnbindTarget : TargetsHealthy (runUnbindTarget tag body s) :=
  targetsHealthy_carryOut h tag fun t _ => targetsHealthy_makeReady
    ((h.of_kept (keepsProbes_removeProbe t s)).changeTarget Target.sound_free (h.absent_removeProbe t)) _

theorem targetsHealthy_runStart : TargetsHealthy (runStart tag body s) := by
  refine targetsHealthy_carryOut h tag fun _ _ => targetsHealthy_makeReady (targetsHealthy_startCycle ?_ 0) _
  exact h.of_kept (.of_tables rfl rfl)

theorem targetsHealthy_runStop : TargetsHealthy (runStop tag body s) :=
  targetsHealthy_carryOut h tag fun _ _ =>
    (targetsHealthy_stoppedPart h tag).of_kept (keepsProbes_finishDrain ..)

theorem targetsHealthy_runSetCycle : TargetsHealthy (runSetCycle tag body s) :=
  targetsHealthy_carryOut_of_kept h tag fun n =>
    keepsProbes_mapLanes (f := fun l => l.withInterval n) (fun _ => .of_same rfl rfl) rfl rfl

theorem targetsHealthy_runDefinePoll : TargetsHealthy (runDefinePoll tag body s) := by
  refine targetsHealthy_carryOut_of_kept h tag fun q => ?_
  rw [definePoll_eq]
  exact keepsProbes_mapLanes (definitionEnded_keepsProbes s q.poll) rfl rfl

theorem targetsHealthy_runDeletePoll : TargetsHealthy (runDeletePoll tag body s) := by
  refine targetsHealthy_carryOut_of_kept h tag fun p => ?_
  let u := s.setPoll p (Poll.free (s.poll p).generation)
  rw [deletePoll, unlistPoll_markDefinitionEnd]
  exact keepsProbes_mapLanes (definitionEnded_keepsProbes u p) rfl rfl

theorem targetsHealthy_runSetPollState : TargetsHealthy (runSetPollState tag body s) := by
  refine targetsHealthy_carryOut_of_kept h tag fun a => ?_
  split
  · exact .of_tables rfl rfl
  · rw [pausePoll, unlistPoll_eq]
    exact keepsProbes_mapLanes (unlisted_keepsProbes s.op a.1) rfl rfl

theorem targetsHealthy_runSetLane : TargetsHealthy (runSetLane tag body s) := by
  refine targetsHealthy_carryOut h tag fun q _ => targetsHealthy_makeReady ?_ _
  have hset : KeepsProbes s (s.setLane q.lane ((s.lane q.lane).withSettings s.interval q)) :=
    keepsProbes_setLane (.of_same rfl rfl)
  split
  · exact h.of_kept (hset.trans (keepsProbes_post ..))
  · exact h.of_kept hset

theorem targetsHealthy_runReadLane : TargetsHealthy (runReadLane tag body s) :=
  targetsHealthy_carryOut_of_kept h tag fun _ => keepsProbes_withChoice (fun _ _ => keepsProbes_makeReady ..) s

theorem targetsHealthy_abandonLane (i : Fin 4) : TargetsHealthy (abandonLane i s) := by
  have hrecover (fromFault : Bool) : KeepsProbes s (s.setLane i ((s.lane i).recover fromFault)) :=
    keepsProbes_setLane (.of_same rfl rfl)
  unfold abandonLane
  split
  · exact h
  · exact h
  · exact h.of_kept (hrecover false)
  · exact targetsHealthy_endTransaction h i _
  · exact h.of_kept ((hrecover true).trans (keepsProbes_post ..))

theorem targetsHealthy_runLaneReset : TargetsHealthy (runLaneReset tag body s) :=
  targetsHealthy_carryOut h tag fun i _ =>
    (targetsHealthy_abandonLane h i).of_kept (keepsProbes_setLane (.of_same rfl rfl))

theorem targetsHealthy_runSetTargetState : TargetsHealthy (runSetTargetState tag body s) := by
  refine targetsHealthy_carryOut h tag fun a _ => targetsHealthy_makeReady ?_ _
  split
  · exact targetsHealthy_quarantineTarget h a.1
  · exact targetsHealthy_reviveTarget h a.1

theorem targetsHealthy_runSetAlert : TargetsHealthy (runSetAlert tag body s) := by
  refine targetsHealthy_carryOut h tag fun a _ => ?_
  cases a with
  | inl q => exact targetsHealthy_makeReady (h.of_kept (keepsProbes_enableLine q s)) _
  | inr l => exact targetsHealthy_makeReady (h.of_kept (keepsProbes_disableLine l s)) _

/-- Every command keeps the targets healthy (12.2). -/
theorem targetsHealthy_commandOf {kind : Byte} {run : Byte → List Byte → State → State}
    (hkind : commandOf kind = some run) : TargetsHealthy (run tag body s) := by
  unfold commandOf at hkind
  split at hkind <;> cases hkind
  · exact targetsHealthy_carryOut_of_kept h tag fun _ => .of_tables rfl rfl
  · exact targetsHealthy_carryOut_of_kept h tag fun _ => .of_tables rfl rfl
  · exact targetsHealthy_carryOut h tag fun c _ => targetsHealthy_makeReady (targetsHealthy_clearClass h c) _
  · exact targetsHealthy_carryOut_of_kept h tag fun _ => .of_tables rfl rfl
  · exact targetsHealthy_runStart h tag body
  · exact targetsHealthy_runStop h tag body
  · exact targetsHealthy_runSetCycle h tag body
  · exact targetsHealthy_runDefinePoll h tag body
  · exact targetsHealthy_runDeletePoll h tag body
  · exact targetsHealthy_runSetPollState h tag body
  · exact targetsHealthy_carryOut_of_kept h tag fun _ => .of_tables rfl rfl
  · exact targetsHealthy_runSetLane h tag body
  · exact targetsHealthy_runReadLane h tag body
  · exact targetsHealthy_runLaneReset h tag body
  · exact targetsHealthy_runBindTarget h tag body
  · exact targetsHealthy_runUnbindTarget h tag body
  · exact targetsHealthy_carryOut_of_kept h tag fun _ => .of_tables rfl rfl
  · exact targetsHealthy_runSetTargetState h tag body
  · exact targetsHealthy_carryOut_of_kept h tag fun q => keepsProbes_submit tag q s
  · exact targetsHealthy_carryOut_of_kept h tag fun _ => (keepsProbes_cancelJob ..).trans (keepsProbes_finishDrain ..)
  · exact targetsHealthy_carryOut_of_kept h tag fun i => keepsProbes_flushLane tag i s
  · exact targetsHealthy_runSetAlert h tag body
  · exact targetsHealthy_carryOut_of_kept h tag fun _ => .of_tables rfl rfl
  · exact targetsHealthy_carryOut_of_kept h tag fun _ => .of_tables rfl rfl

end

/-! ### One happening -/

theorem answersHealthy_finish {u : State} (h : TargetsHealthy u) : Answers TargetsHealthy (finish u) :=
  .next (h.of_kept (keepsProbes_arbitrate u))

section
variable {s : State} (h : TargetsHealthy s)
include h

theorem answersHealthy_finish_of_kept {u : State} (hk : KeepsProbes s u) : Answers TargetsHealthy (finish u) :=
  answersHealthy_finish (h.of_kept hk)

theorem answersHealthy_endStep (i : Fin 4) (f : Final) : Answers TargetsHealthy (endStep i f s) :=
  answersHealthy_finish ((targetsHealthy_endTransaction h i f).of_kept (keepsProbes_finishDrain ..))

/-- The end of an attempt that the lane counts (R52, R53). -/
theorem answersHealthy_countedEnd (i : Fin 4) (counts : LaneCounts) (f : Final) :
    Answers TargetsHealthy (endStep i f (s.setLane i { s.lane i with counts := counts })) := by
  have hcounted : KeepsProbes s (s.setLane i { s.lane i with counts := counts }) :=
    keepsProbes_setLane (.of_same rfl rfl)
  exact answersHealthy_endStep (h.of_kept hcounted) i f

theorem answersHealthy_recoveryStep {i : Fin 4} {state : LaneState} {ended : State} (hk : KeepsProbes s ended) :
    Answers TargetsHealthy (recoveryStep i state ended s) :=
  answersHealthy_finish_of_kept h (hk.trans (keepsProbes_finishDrain ..))

theorem answersHealthy_execAttemptAddrNack (i : Fin 4) : Answers TargetsHealthy (execAttemptAddrNack i s) :=
  .onTransaction h fun _ hx =>
    .ite (fun _ => answersHealthy_finish_of_kept h (keepsProbes_setLane (Lane.keepsProbes_retry hx _)))
      (answersHealthy_endStep h _ _)

theorem answersHealthy_execTransactionEnd (i : Fin 4) (result : BusResult) :
    Answers TargetsHealthy (execTransactionEnd i result s) := by
  refine .onTransaction h fun x _ => ?_
  split
  · exact answersHealthy_endStep h _ _
  · exact .next h

theorem answersHealthy_execRecoveryEnd (i : Fin 4) (result : RecoveryResult) :
    Answers TargetsHealthy (execRecoveryEnd i result s) := by
  refine .ite (fun _ => ?_) (.next h)
  cases result with
  | busFree => exact answersHealthy_recoveryStep h (keepsProbes_recoveredIdle i s)
  | sdaHeld => exact answersHealthy_recoveryStep h (keepsProbes_faultLane ..)

theorem answersHealthy_execDrainRemoval (i : Fin 4) : Answers TargetsHealthy (execDrainRemoval i s) := by
  unfold execDrainRemoval
  split
  · exact .ite (fun _ => answersHealthy_finish_of_kept h
      ((keepsProbes_drainHead ..).trans (keepsProbes_finishDrain ..))) (.next h)
  · exact .next h

theorem answersHealthy_execAlertInputChange (l : Fin 8) (high : Bool) :
    Answers TargetsHealthy (execAlertInputChange l high s) := by
  have hpins : TargetsHealthy { s with alertPins := s.alertPins.set l high } := h.of_kept (.of_tables rfl rfl)
  exact .ite (fun _ => answersHealthy_finish_of_kept hpins (keepsProbes_takeLevel ..)) (.next hpins)

theorem answersHealthy_execTransmitEnd : Answers TargetsHealthy (execTransmitEnd s) := by
  have hfree : TargetsHealthy { s with transmitter := none } := h.of_kept (.of_tables rfl rfl)
  unfold execTransmitEnd
  split
  · refine answersHealthy_finish ?_
    unfold frameSent
    split
    · exact hfree.of_kept (.of_tables rfl rfl)
    · exact targetsHealthy_of_reset rfl rfl
    all_goals exact hfree
  · exact .next h

theorem answersHealthy_event {c : Instr} (hframe : c.hostFrame = none) : Answers TargetsHealthy (exec c s) := by
  cases c <;> cases hframe
  case powerOn | resetInput | supplyBelowOperatingLevel => exact .next (targetsHealthy_of_reset rfl rfl)
  case resetRelease => exact .ite (fun _ => .next (targetsHealthy_of_reset rfl rfl)) (.next h)
  case initEnd => exact .ite (fun _ => answersHealthy_finish_of_kept h (.of_tables rfl rfl)) (.next h)
  case receiveByte =>
    exact .ite (fun _ => answersHealthy_finish (targetsHealthy_ofTables.takeByte
      (fun hkind tag body _ hu => targetsHealthy_commandOf hu tag body hkind) h _)) (.next h)
  case gapTimeout =>
    exact .ite (fun _ => answersHealthy_finish (targetsHealthy_ofTables.hostError (s := toHunt s)
      (h.of_kept (.of_tables rfl rfl)) _ _)) (.next h)
  case transmitEnd => exact answersHealthy_execTransmitEnd h
  case cycleStart => exact .ite (fun _ => answersHealthy_finish (targetsHealthy_startCycle h _)) (.next h)
  case lookForWork => exact .ite (fun _ => answersHealthy_finish (targetsHealthy_look h _)) (.next h)
  case attemptAddrNack => exact answersHealthy_execAttemptAddrNack h _
  case stretchTimeout => exact .onTransaction h fun _ _ => answersHealthy_countedEnd h _ _ _
  case busStuck => exact .onTransaction h fun _ _ => answersHealthy_endStep h _ _
  case arbLost => exact .onTransaction h fun _ _ => answersHealthy_countedEnd h _ _ _
  case transactionEnd => exact answersHealthy_execTransactionEnd h _ _
  case recoveryEnd => exact answersHealthy_execRecoveryEnd h _ _
  case recoverySclTimeout =>
    exact .ite (fun _ => answersHealthy_recoveryStep h (keepsProbes_faultLane ..)) (.next h)
  case drainRemoval => exact answersHealthy_execDrainRemoval h _
  case alertInputChange => exact answersHealthy_execAlertInputChange h _ _
  case alertFilterExpiry =>
    exact .ite (fun _ => answersHealthy_finish_of_kept h (keepsProbes_takeLevel ..)) (.next h)
  case alertEvaluation =>
    exact .ite (fun _ => answersHealthy_finish_of_kept h (keepsProbes_withChoice keepsProbes_evaluateLines s))
      (.next h)

/-- Every command and event keeps the targets healthy. -/
theorem exec_answersHealthy (c : Instr) : Answers TargetsHealthy (exec c s) := by
  cases hframe : c.hostFrame with
  | none => exact answersHealthy_event h hframe
  | some frame =>
    exact targetsHealthy_ofTables.exec_hostFrame
      (fun hkind tag body _ hu => targetsHealthy_commandOf hu tag body hkind)
      (fun _ hu => hu.of_kept (keepsProbes_arbitrate _)) h hframe

end

/-- Settles O56, by the cases of the happening at the front of the queue. -/
theorem stepKeepsTargetHealth : Obligations.StepKeepsTargetHealth := by
  intro s t h hstep
  exact healthInv_iff.2 (step_answers (P := TargetsHealthy) (fun _ _ hs => hs.of_kept (.of_tables rfl rfl))
    (fun c _ hs => exec_answersHealthy hs c) (healthInv_iff.1 h) hstep)

end Sys2Proof.Machine

/-! PROOF. The value of data bytes in DELTA mode and its change (R114), with the statement about them. -/

namespace Sys2Proof.Machine

/-- A value of DELTA mode is one of signed 16 bits (R114). -/
theorem dataValue_range (order : ValueOrder) (a b : Byte) (rest : List Byte) :
    -32768 ≤ dataValue order (a :: b :: rest) ∧ dataValue order (a :: b :: rest) ≤ 32767 := by
  have hrange (v : BitVec 16) : -32768 ≤ v.toInt ∧ v.toInt ≤ 32767 := by
    have hlo := BitVec.le_toInt v
    have hhi := BitVec.toInt_lt (x := v)
    omega
  cases order with
  | big => exact hrange (a ++ b)
  | little => exact hrange (b ++ a)

theorem valueChange_eq_abs (order : ValueOrder) (old new : List Byte) :
    (valueChange order old new : Int) = |dataValue order new - dataValue order old| := by
  rw [valueChange, Int.natCast_natAbs]

/-- Where Last Status and the status are OK, a DELTA poll is reported by its change of value alone (R113, R114). -/
theorem reports_delta_iff {e : Poll} {f : Final} (hmode : e.defn.mode = .delta) (hvalid : e.snapshot.valid = true)
    (hlast : e.snapshot.lastStatus = .ok) (hstatus : f.status = .ok) :
    e.reports f = true ↔ e.defn.threshold ≤ valueChange e.defn.order e.snapshot.lastData f.data := by
  rw [Poll.reports_eq, hmode, hvalid, hlast, hstatus]
  exact decide_eq_true_iff

/-- Settles O37: the values are signed 16-bit numbers, so their difference is taken in full. -/
theorem deltaComparesSignedValues : Obligations.DeltaComparesSignedValues := by
  refine ⟨fun a b rest => ⟨rfl, rfl⟩, ?_, fun e f => reports_delta_iff, ?_⟩
  · rintro order a b c d r q _ _ rfl rfl
    obtain ⟨hold, hold'⟩ := dataValue_range order a b r
    obtain ⟨hnew, hnew'⟩ := dataValue_range order c d q
    refine ⟨hnew, hnew', valueChange_eq_abs .., ?_⟩
    rw [valueChange]
    omega
  · decide

end Sys2Proof.Machine

/-! PROOF. What a happening may change of the blocks, record slots and links (R106, R109, R117): the operations that
change none of them, and the moves that do. -/

namespace Sys2Proof.Machine

/-! ### Operations that change no block, slot or link -/

/-- The lane keeps its transaction with the Reservation, and its jobs but for the mark that STOP sets (R76, R109). -/
structure Lane.KeepsStock (a b : Lane) : Prop where
  busy : b.state = .busy ↔ a.state = .busy
  txn : b.txn = a.txn
  reservation : b.reservation = a.reservation
  jobs : b.jobs.map Job.unmarked = a.jobs.map Job.unmarked

theorem Lane.KeepsStock.refl (a : Lane) : a.KeepsStock a := ⟨Iff.rfl, rfl, rfl, rfl⟩

theorem Lane.KeepsStock.trans {a b c : Lane} (hab : a.KeepsStock b) (hbc : b.KeepsStock c) : a.KeepsStock c where
  busy := hbc.busy.trans hab.busy
  txn := hbc.txn.trans hab.txn
  reservation := hbc.reservation.trans hab.reservation
  jobs := hbc.jobs.trans hab.jobs

/-- A lane that is BUSY in neither State. -/
theorem Lane.KeepsStock.of_resting {a b : Lane} (ha : a.state ≠ .busy) (hb : b.state ≠ .busy) (ht : b.txn = a.txn)
    (hr : b.reservation = a.reservation) (hj : b.jobs = a.jobs) : a.KeepsStock b :=
  ⟨iff_of_false hb ha, ht, hr, by rw [hj]⟩

theorem Lane.SameButTiers.keepsStock {a b : Lane} : a.SameButTiers b → a.KeepsStock b := by
  rintro ⟨_, _, _, rfl⟩
  exact ⟨Iff.rfl, rfl, rfl, rfl⟩

theorem Lane.keepsStock_gains (l : Lane) (reads : List (Fin 8)) (woken : Bool) : l.KeepsStock (l.gains reads woken) :=
  ⟨Iff.rfl, rfl, rfl, rfl⟩

theorem Lane.keepsStock_stopped (l : Lane) : l.KeepsStock l.stopped where
  busy := Iff.rfl
  txn := rfl
  reservation := rfl
  jobs := by rw [Lane.stopped, List.map_map]; rfl

theorem told_keepsStock (op : OpState) (l : Lane) : l.KeepsStock (told op l) := by
  rw [told_frame]
  exact ⟨Iff.rfl, rfl, rfl, rfl⟩

theorem unlisted_keepsStock (op : OpState) (p : Fin 48) (l : Lane) : l.KeepsStock (unlisted op p l) := by
  unfold unlisted
  split
  · refine .trans ?_ (told_keepsStock op _)
    exact ⟨Iff.rfl, rfl, rfl, rfl⟩
  · exact .refl l

/-- The entry keeps its Waiting Record link, and the definition that the link is of (R117). -/
structure Poll.KeepsLink (a b : Poll) : Prop where
  link : b.link = a.link
  generation : b.generation = a.generation
  keepLatest : b.defn.keepLatest = a.defn.keepLatest

theorem Poll.KeepsLink.refl (a : Poll) : a.KeepsLink a := ⟨rfl, rfl, rfl⟩

theorem Poll.KeepsLink.trans {a b c : Poll} (hab : a.KeepsLink b) (hbc : b.KeepsLink c) : a.KeepsLink c where
  link := hbc.link.trans hab.link
  generation := hbc.generation.trans hab.generation
  keepLatest := hbc.keepLatest.trans hab.keepLatest

/-- From `s` to `u` no block and no record slot changes hands and no link moves; the low-water mark stays within the
free blocks (R107). -/
structure KeepsStock (s u : State) : Prop where
  lanes : ∀ i, (s.lane i).KeepsStock (u.lane i)
  polls : ∀ p, (s.poll p).KeepsLink (u.poll p)
  records : u.records = s.records
  free : u.pool.free = s.pool.free
  lowWater : s.pool.lowWater ≤ s.pool.free → u.pool.lowWater ≤ u.pool.free

theorem KeepsStock.refl (s : State) : KeepsStock s s := ⟨fun _ => .refl _, fun _ => .refl _, rfl, rfl, id⟩

theorem KeepsStock.trans {s t u : State} (hst : KeepsStock s t) (htu : KeepsStock t u) : KeepsStock s u where
  lanes i := (hst.lanes i).trans (htu.lanes i)
  polls p := (hst.polls p).trans (htu.polls p)
  records := htu.records.trans hst.records
  free := htu.free.trans hst.free
  lowWater := htu.lowWater ∘ hst.lowWater

theorem KeepsStock.foldl {α : Type} {f : State → α → State} (hf : ∀ s a, KeepsStock s (f s a)) (as : List α)
    (s : State) : KeepsStock s (as.foldl f s) :=
  foldl_keeps (P := KeepsStock s) (fun u a h => h.trans (hf u a)) as s (.refl s)

section
variable {s u : State}

/-- Lanes change in what is neither transaction, Reservation nor job. -/
theorem KeepsStock.of_lanes (hl : ∀ i, (s.lane i).KeepsStock (u.lane i)) (hp : u.polls = s.polls)
    (hr : u.records = s.records) (hpool : u.pool = s.pool) : KeepsStock s u where
  lanes := hl
  polls p := by rw [State.poll, State.poll, hp]; exact .refl _
  records := hr
  free := by rw [hpool]
  lowWater := by rw [hpool]; exact id

theorem KeepsStock.of_tables (hl : u.lanes = s.lanes) (hp : u.polls = s.polls) (hr : u.records = s.records)
    (hpool : u.pool = s.pool) : KeepsStock s u :=
  .of_lanes (fun i => by rw [State.lane, State.lane, hl]; exact .refl _) hp hr hpool

theorem keepsStock_setLane {i : Fin 4} {x : Lane} (h : (s.lane i).KeepsStock x) : KeepsStock s (s.setLane i x) := by
  refine .of_lanes (fun k => ?_) rfl rfl rfl
  rw [State.setLane_lane]
  split
  · rename_i hk
    exact hk ▸ h
  · exact .refl _

theorem keepsStock_mapLanes {f : Lane → Lane} (h : ∀ l : Lane, l.KeepsStock (f l)) (hl : u.lanes = s.lanes.map f)
    (hp : u.polls = s.polls) (hr : u.records = s.records) (hpool : u.pool = s.pool) : KeepsStock s u := by
  refine .of_lanes (fun k => ?_) hp hr hpool
  rw [State.lane, State.lane, hl, Table.get_map]
  exact h _

theorem keepsStock_setPoll {p : Fin 48} {x : Poll} (h : (s.poll p).KeepsLink x) : KeepsStock s (s.setPoll p x) := by
  refine { KeepsStock.refl s with polls := fun k => ?_ }
  rw [State.setPoll_poll]
  split
  · rename_i hk
    exact hk ▸ h
  · exact .refl _

end

/-! ### Lanes, notices, replies and choices -/

section
variable (s : State)

theorem keepsStock_wakeLane (i : Fin 4) : KeepsStock s (wakeLane i s) :=
  .of_lanes (fun k => (wakeLane_sameButTiers i k s).keepsStock) (by rw [wakeLane_frame]) (by rw [wakeLane_frame])
    (by rw [wakeLane_frame])

theorem keepsStock_wakeAll : KeepsStock s (wakeAll s) :=
  .of_lanes (fun k => (wakeAll_sameButTiers s k).keepsStock) (by rw [wakeAll_frame]) (by rw [wakeAll_frame])
    (by rw [wakeAll_frame])

theorem keepsStock_post (b : NoticeBody) : KeepsStock s (post b s) := by
  rw [post_frame]
  exact .of_tables rfl rfl rfl rfl

theorem keepsStock_makeReady (r : Reply) : KeepsStock s (makeReady r s) := .of_tables rfl rfl rfl rfl

theorem keepsStock_finishDrain (others : List Reply) : KeepsStock s (finishDrain others s) := by
  rw [finishDrain_frame]
  exact .of_tables rfl rfl rfl rfl

theorem keepsStock_hostError (count : HostErrors → HostErrors) (one : HostErrors) :
    KeepsStock s (hostError count one s) := by
  rw [hostError_frame]
  exact .of_tables rfl rfl rfl rfl

theorem keepsStock_refuse (kind tag : Byte) (status : ReplyStatus) : KeepsStock s (refuse kind tag status s) := by
  unfold refuse
  split
  · exact keepsStock_makeReady ..
  · exact keepsStock_hostError ..

theorem keepsStock_withChoice {f : List Nat → State → State} (hf : ∀ picks u, KeepsStock u (f picks u)) :
    KeepsStock s (withChoice f s) := by
  refine .trans ?_ (hf ..)
  rw [afterChoice_frame]
  exact .of_tables rfl rfl rfl rfl

/-! ### Targets and cycle starts -/

theorem keepsStock_changeTarget (t : Fin 32) (x : Target) : KeepsStock s (changeTarget t x s) := by
  rw [changeTarget_frame]
  exact .of_tables rfl rfl rfl rfl

theorem keepsStock_targetOutcome (t : Fin 32) (isProbe : Bool) (status : RecordStatus) :
    KeepsStock s (targetOutcome t isProbe status s) := by
  refine .of_lanes (fun k => ?_) (by rw [targetOutcome_frame]) (by rw [targetOutcome_frame])
    (by rw [targetOutcome_frame])
  rw [targetOutcome_gains]
  exact Lane.keepsStock_gains ..

theorem keepsStock_removeProbe (t : Fin 32) : KeepsStock s (removeProbe t s) := by
  unfold removeProbe
  dsimp only
  split
  · refine .trans ?_ (keepsStock_wakeLane ..)
    exact keepsStock_setLane ⟨Iff.rfl, rfl, rfl, rfl⟩
  · exact .refl s

theorem keepsStock_reviveTarget (t : Fin 32) : KeepsStock s (reviveTarget t s) := by
  unfold reviveTarget
  dsimp only
  split
  · exact .refl s
  · exact .refl s
  · exact keepsStock_changeTarget ..
  · refine .trans ?_ (keepsStock_wakeLane ..)
    exact (keepsStock_removeProbe s t).trans (keepsStock_changeTarget ..)

theorem keepsStock_quarantineTarget (t : Fin 32) : KeepsStock s (quarantineTarget t s) := by
  unfold quarantineTarget
  dsimp only
  split
  · exact .refl s
  · exact keepsStock_changeTarget ..
  · exact keepsStock_changeTarget ..
  · refine .trans ?_ (keepsStock_removeProbe ..)
    split
    · exact .refl s
    · exact .of_tables rfl rfl rfl rfl

/-- A cycle start counts misses, fills work lists and queues probes and reads (R15). -/
theorem keepsStock_startCycle (c : Word16) : KeepsStock s (startCycle c s) where
  lanes i := by
    refine .trans ?_ (startCycle_sameButTiers c s i).keepsStock
    exact ⟨Iff.rfl, rfl, rfl, rfl⟩
  polls p := by rw [startCycle_poll]; exact ⟨rfl, rfl, rfl⟩
  records := by rw [startCycle_frame]
  free := by rw [startCycle_frame]
  lowWater := by rw [startCycle_frame]; exact id

/-! ### Alert lines (R79 to R93) -/

theorem keepsStock_setLine (l : Fin 8) (x : Line) : KeepsStock s (s.setLine l x) := .of_tables rfl rfl rfl rfl

theorem keepsStock_trigger (l : Fin 8) : KeepsStock s (trigger l s) :=
  .of_lanes (fun k => (trigger_sameButTiers l s k).keepsStock) (by rw [trigger_frame]) (by rw [trigger_frame])
    (by rw [trigger_frame])

theorem keepsStock_moveLine (l : Fin 8) : KeepsStock s (moveLine l s) := by
  unfold moveLine
  split
  · exact keepsStock_trigger ..
  · exact keepsStock_setLine ..

theorem keepsStock_alertSnapshot (l : Fin 8) (x : Transaction) (f : Final) :
    KeepsStock s (alertSnapshot l x f s) := by
  unfold alertSnapshot
  split
  · exact .refl s
  · exact keepsStock_setPoll ⟨rfl, rfl, rfl⟩

theorem keepsStock_takeLevel (l : Fin 8) : KeepsStock s (takeLevel l s) := by
  unfold takeLevel
  dsimp only
  refine (keepsStock_setLine s l { s.line l with level := inputActive s l }).trans ?_
  split
  · unfold activeEdge
    split
    · exact keepsStock_trigger ..
    · split
      · exact keepsStock_setLine ..
      · exact .refl _
  · exact .refl _

theorem keepsStock_enableLine (q : AlertRequest) : KeepsStock s (enableLine q s) := by
  refine (keepsStock_setLine s q.line ((s.line q.line).armedWith q (s.alertPins.get q.line))).trans ?_
  unfold enableLine levelTrigger
  split
  · exact keepsStock_trigger ..
  · exact .refl _

theorem keepsStock_disableLine (l : Fin 8) : KeepsStock s (disableLine l s) := by
  cases hs : (s.line l).state with
  | off => rw [disableLine_off hs]; exact .refl s
  | armed => rw [disableLine_waiting (.inl hs)]; exact keepsStock_setLine ..
  | holdoff => rw [disableLine_waiting (.inr hs)]; exact keepsStock_setLine ..
  | pending =>
    rw [disableLine_pending hs]
    refine (keepsStock_setLine s l (s.line l).turnedOff).trans (.trans ?_ (keepsStock_wakeLane ..))
    exact keepsStock_setLane ⟨Iff.rfl, rfl, rfl, rfl⟩
  | running => rw [disableLine_running hs]; exact keepsStock_setLine ..

theorem keepsStock_evaluateLines (picks : List Nat) : KeepsStock s (evaluateLines picks s) := by
  refine .trans ?_ (.foldl (fun u l => keepsStock_trigger u l) ..)
  exact .of_tables rfl rfl rfl rfl

/-! ### Recovery, settings and counters -/

theorem keepsStock_recoveredIdle {i : Fin 4} (h : (s.lane i).state ≠ .busy) : KeepsStock s (recoveredIdle i s) := by
  have hidle : KeepsStock s (s.setLane i { s.lane i with state := .idle, waitingResets := [], fromFault := false }) :=
    keepsStock_setLane (.of_resting h nofun rfl rfl rfl)
  unfold recoveredIdle
  dsimp only
  refine .trans ?_ (keepsStock_wakeLane ..)
  split
  · exact hidle.trans (keepsStock_post ..)
  · exact hidle

theorem keepsStock_faultLane {i : Fin 4} (h : (s.lane i).state ≠ .busy) (cause : FaultCause) (posted : LaneCause) :
    KeepsStock s (faultLane i cause posted s) := by
  refine .trans ?_ (keepsStock_post ..)
  exact keepsStock_setLane (.of_resting h nofun rfl rfl rfl)

theorem keepsStock_recover {i : Fin 4} (h : (s.lane i).state ≠ .busy) (fromFault : Bool) :
    KeepsStock s (s.setLane i ((s.lane i).recover fromFault)) :=
  keepsStock_setLane (.of_resting h nofun rfl rfl rfl)

theorem keepsStock_withSettings (q : LaneRequest) :
    KeepsStock s (s.setLane q.lane ((s.lane q.lane).withSettings s.interval q)) :=
  keepsStock_setLane ⟨LaneState.afterSetLane_eq_busy .., rfl, rfl, rfl⟩

theorem keepsStock_clearPolls : KeepsStock s (clearPolls s) := by
  refine { KeepsStock.refl s with polls := fun p => ?_ }
  rw [clearPolls, State.poll, State.poll, Table.get_map]
  exact ⟨rfl, rfl, rfl⟩

theorem keepsStock_clearLanes : KeepsStock s (clearLanes s) :=
  keepsStock_mapLanes (f := fun l => { l with counts := .zero }) (fun _ => ⟨Iff.rfl, rfl, rfl, rfl⟩) rfl rfl rfl rfl

/-- The low-water mark is set to the free-block count (R121). -/
theorem keepsStock_clearResult : KeepsStock s (clearResult s) :=
  { KeepsStock.refl s with lowWater := fun _ => Nat.le_refl _ }

theorem keepsStock_clearClass (c : CounterClass) : KeepsStock s (clearClass c s) := by
  cases c with
  | all =>
    have htargets : KeepsStock s (clearTargets s) := .of_tables rfl rfl rfl rfl
    have hlanes := (htargets.trans (keepsStock_clearPolls _)).trans (keepsStock_clearLanes _)
    have halerts : KeepsStock s (clearAlerts (clearLanes (clearPolls (clearTargets s)))) :=
      hlanes.trans (.of_tables rfl rfl rfl rfl)
    exact (halerts.trans (keepsStock_clearResult _)).trans (.of_tables rfl rfl rfl rfl)
  | poll => exact keepsStock_clearPolls s
  | lane => exact keepsStock_clearLanes s
  | result => exact keepsStock_clearResult s
  | target | alert | host => exact .of_tables rfl rfl rfl rfl

end

/-! ### The moves of blocks, slots and links -/

/-- The transaction is one that its Kind runs (R47, R50), a scheduled one of the definition in force (R25). -/
def Transaction.Starts (x : Transaction) (s : State) : Prop :=
  match x.work with
  | .poll p => x.op = .read ∧ x.generation = (s.poll p).generation
  | .alert _ => x.op = .read
  | .job j => x.op = j.kind
  | .probe => x.op = .probe

/-- The moves by which a happening changes who holds a block or a record slot, or what a link names (R106 to R110,
R117). -/
inductive StockMove (s : State) : State → Prop
  /-- Nothing moves. -/
  | keeps {u : State} (h : KeepsStock s u) : StockMove s u
  /-- A transaction takes its result space and starts on a lane at rest, its job leaving the queue (R46, R47). -/
  | starts {i : Fin 4} {x : Transaction} {jobs : List Job} (hrest : (s.lane i).state ≠ .busy) (hx : x.Starts s)
      (hjobs : (s.lane i).jobs = x.job.toList ++ jobs) (hspace : hasSpace (reservationFor x.work x.op) s = true) :
      StockMove s (startTransaction i x (s.setLane i { s.lane i with jobs := jobs }))
  /-- A transaction is tried again (R54). -/
  | retries {i : Fin 4} {x : Transaction} (t : Target) (htxn : (s.lane i).txn = some x) :
      StockMove s (s.setLane i ((s.lane i).retry x t))
  /-- A transaction ends (R55). -/
  | ends {i : Fin 4} {x : Transaction} (f : Final) (htxn : (s.lane i).txn = some x) :
      StockMove s (endTransaction i f s)
  /-- A job joins a queue, claiming its Data Block if it has one (R68). -/
  | enqueues (i : Fin 4) {j : Job} (hdata : j.data.isSome = true → j.kind = .write ∧ 0 < s.pool.free) :
      StockMove s (enqueued i j (if j.data.isSome then claimBlock s else s))
  /-- Jobs leave a queue, each with a record in a free slot (R71). -/
  | removes {i : Fin 4} {gone jobs : List Job} {status : RecordStatus} (hjobs : (s.lane i).jobs.Perm (gone ++ jobs))
      (hslots : gone.length ≤ s.freeSlots) (hstatus : status ≠ .ok) :
      StockMove s (gone.foldl (fun u j => endQueuedJob j status u) (s.setLane i { s.lane i with jobs := jobs }))
  /-- A record without data takes a free slot (R44). -/
  | adds {r : Record} (hdata : r.data = none) (hslot : s.slotFree = true) : StockMove s (addRecord r s)
  /-- The head record is taken (R120). -/
  | takes {r : Record} {rest : List Record} (hrecords : s.records = r :: rest) : StockMove s (takeRecord r rest s)
  /-- The definition of an entry ends, the link absent from then on (R25, R117). -/
  | redefines (p : Fin 48) {x : Poll} (hlink : x.link = none) :
      StockMove s (unlistPoll p (markDefinitionEnd p (s.setPoll p x)))
  /-- Every block takes its reset values (R152). -/
  | resets {u : State} (hlanes : u.lanes = State.reset.lanes) (hpolls : u.polls = State.reset.polls)
      (hrecords : u.records = State.reset.records) (hpool : u.pool = State.reset.pool) : StockMove s u

/-- From `s` to `u` in any number of moves. -/
abbrev StockMoves (s u : State) : Prop := Relation.ReflTransGen StockMove s u

section
variable {s t u : State}

theorem KeepsStock.moves (h : KeepsStock s u) : StockMoves s u := .single (.keeps h)

/-- Nothing moves before the moves. -/
theorem KeepsStock.trans_moves (h : KeepsStock s t) (hm : StockMoves t u) : StockMoves s u := h.moves.trans hm

/-- Nothing moves after the moves. -/
theorem KeepsStock.after_moves (h : KeepsStock t u) (hm : StockMoves s t) : StockMoves s u := hm.trans h.moves

end

end Sys2Proof.Machine

/-! PROOF. The moves that looks for work, ends of transactions, commands and events make (R43 to R62, R65 to R77,
R130 to R157): every happening is a chain of moves. -/

namespace Sys2Proof.Machine

/-! ### Result space (R46) -/

theorem hasSpace_of_kept {s u : State} (h : KeepsStock s u) (r : Reservation) : hasSpace r u = hasSpace r s := by
  have hslots : u.slotFree = s.slotFree := by
    rw [State.slotFree, State.slotsUsed, h.records, reservations_congr fun k => (h.lanes k).reservation]
    rfl
  cases r with
  | none => rfl
  | slot => exact hslots
  | slotAndBlock => rw [hasSpace, hasSpace, hslots, h.free]

theorem slotFree_of_kept {s u : State} (h : KeepsStock s u) : u.slotFree = s.slotFree := hasSpace_of_kept h .slot

theorem slotFree_iff_freeSlots (s : State) : s.slotFree = true ↔ 1 ≤ s.freeSlots := by
  rw [State.slotFree, decide_eq_true_iff, State.freeSlots]
  omega

/-- A job leaves a queue with a record in a free slot (R71). -/
theorem stockMoves_endJob {s : State} {i : Fin 4} {j : Job} {jobs : List Job} {status : RecordStatus}
    (hjobs : (s.lane i).jobs.Perm ([j] ++ jobs)) (hslot : s.slotFree = true) (hstatus : status ≠ .ok) :
    StockMoves s (endQueuedJob j status (s.setLane i { s.lane i with jobs := jobs })) :=
  .single (.removes hjobs ((slotFree_iff_freeSlots s).1 hslot) hstatus)

/-! ### Looking for work (R42 to R47) -/

/-- What an examination by lane `i` comes to is reached by moves, the lane at rest unless a transaction starts. -/
def Look.Moves (i : Fin 4) (s : State) : Look → Prop
  | .started t => StockMoves s t
  | .settled t | .passed t => StockMoves s t ∧ (t.lane i).state ≠ .busy

section
variable {i : Fin 4} {s : State}

theorem Look.Moves.of_moves {u : State} {r : Look} (hm : StockMoves s u) (h : r.Moves i u) : r.Moves i s := by
  cases r with
  | started t => exact hm.trans h
  | settled t | passed t => exact ⟨hm.trans h.1, h.2⟩

theorem Look.Moves.next {r : Look} {examine : State → Look} (h : r.Moves i s)
    (hnext : ∀ u, (u.lane i).state ≠ .busy → (examine u).Moves i u) : (r.next examine).Moves i s := by
  cases r with
  | started t | settled t => exact h
  | passed t => exact (hnext t h.2).of_moves h.1

theorem Lane.KeepsStock.resting {a b : Lane} (h : a.KeepsStock b) (ha : a.state ≠ .busy) : b.state ≠ .busy :=
  mt h.busy.1 ha

theorem keepsStock_skipQuarantined (i : Fin 4) (ps : List (Fin 48)) (s : State) :
    KeepsStock s (skipQuarantined i ps s) := by
  induction ps generalizing s with
  | nil => exact .refl s
  | cons p rest ih =>
    unfold skipQuarantined
    split
    · refine .trans ?_ (ih _)
      refine .trans ?_ (keepsStock_post ..)
      have hskips : KeepsStock s (s.setLane i { s.lane i with workList := rest }) :=
        keepsStock_setLane ⟨Iff.rfl, rfl, rfl, rfl⟩
      exact hskips.trans (keepsStock_setPoll ⟨rfl, rfl, rfl⟩)
    · exact .refl s

variable (hrest : (s.lane i).state ≠ .busy)
include hrest

theorem Look.moves_passed_of_kept {u : State} (h : KeepsStock s u) : (Look.passed u).Moves i s :=
  ⟨h.moves, (h.lanes i).resting hrest⟩

theorem Look.moves_waits : (Look.passed s).Moves i s := Look.moves_passed_of_kept hrest (.refl s)

/-- A transaction that serves no job starts. -/
theorem stockMoves_start {u : State} {x : Transaction} (h : KeepsStock s u) (hx : x.Starts u) (hjob : x.job = none)
    (hspace : hasSpace (reservationFor x.work x.op) s = true) : StockMoves s (startTransaction i x u) := by
  have hstarts := StockMove.starts (s := u) (i := i) (jobs := (u.lane i).jobs) ((h.lanes i).resting hrest) hx
    (by rw [hjob]; rfl) ((hasSpace_of_kept h _).trans hspace)
  have hsame : u.setLane i { u.lane i with jobs := (u.lane i).jobs } = u := u.setLane_lane_eq i
  rw [hsame] at hstarts
  exact h.trans_moves (.single hstarts)

/-- A head is examined: it closes its tier, waits or starts (R45 to R47). -/
theorem moves_examineHead {x : Transaction} (close : TierFlags → TierFlags) {start : State → State}
    (hstart : hasSpace (reservationFor x.work x.op) s = true → StockMoves s (startTransaction i x (start s))) :
    (examineHead i x (closeTier i close) start s).Moves i s := by
  have hclose : KeepsStock s (closeTier i close s) := keepsStock_setLane ⟨Iff.rfl, rfl, rfl, rfl⟩
  unfold examineHead
  split
  · exact Look.moves_passed_of_kept hrest hclose
  · split
    · exact hstart ‹_›
    · exact Look.moves_waits hrest

theorem moves_lookProbe : (lookProbe i s).Moves i s := by
  unfold lookProbe
  split
  · refine moves_examineHead hrest (fun c => { c with probe := true }) fun hspace => ?_
    exact stockMoves_start hrest (keepsStock_setLane ⟨Iff.rfl, rfl, rfl, rfl⟩) rfl rfl hspace
  · exact Look.moves_waits hrest

theorem moves_lookAlert : (lookAlert i s).Moves i s := by
  have htier (tier : List (Fin 8)) : KeepsStock s (s.setLane i { s.lane i with alertTier := tier }) :=
    keepsStock_setLane ⟨Iff.rfl, rfl, rfl, rfl⟩
  unfold lookAlert
  split
  · rename_i a rest _ _
    dsimp only
    split
    · split
      · rename_i hslot
        refine ⟨(htier rest).trans_moves ((keepsStock_moveLine ..).after_moves (.single (.adds rfl ?_))), ?_⟩
        · rw [slotFree_of_kept (htier rest), hslot]
        · exact ((keepsStock_moveLine (addRecord _ _) a).lanes i).resting (((htier rest).lanes i).resting hrest)
      · exact Look.moves_waits hrest
    · refine moves_examineHead hrest (fun c => { c with alert := true }) fun hspace => ?_
      exact stockMoves_start hrest ((htier rest).trans (keepsStock_setLine ..)) rfl rfl hspace
  · exact Look.moves_waits hrest

theorem moves_lookPoll : (lookPoll i s).Moves i s := by
  unfold lookPoll
  split
  · refine moves_examineHead hrest (fun c => { c with schedule := true }) fun hspace => ?_
    exact stockMoves_start hrest (keepsStock_setLane ⟨Iff.rfl, rfl, rfl, rfl⟩) ⟨rfl, rfl⟩ rfl hspace
  · exact Look.moves_waits hrest

theorem moves_lookSchedule : (lookSchedule i s).Moves i s := by
  have hskips := keepsStock_skipQuarantined i (s.lane i).workList s
  unfold lookSchedule
  split
  · exact Look.moves_waits hrest
  · exact (moves_lookPoll ((hskips.lanes i).resting hrest)).of_moves hskips.moves

theorem moves_lookJob : (lookJob i s).Moves i s := by
  unfold lookJob
  split
  · rename_i j rest _ hjobs
    split
    · split
      · rename_i hslot
        refine ⟨stockMoves_endJob (.of_eq hjobs) hslot nofun, ?_⟩
        rw [endQueuedJob_lane, State.setLane_lane_self]
        split
        · exact (told_keepsStock ..).resting hrest
        · exact hrest
      · exact Look.moves_waits hrest
    · refine moves_examineHead hrest (fun c => { c with job := true }) fun hspace => ?_
      exact .single (.starts (x := jobTransaction s j) hrest rfl hjobs hspace)
  · exact Look.moves_waits hrest

theorem moves_lookOnce : (lookOnce i s).Moves i s :=
  (((moves_lookProbe hrest).next fun _ => moves_lookAlert).next fun _ => moves_lookSchedule).next fun _ => moves_lookJob

theorem stockMoves_lookPasses (fuel : Nat) : StockMoves s (lookPasses i fuel s) := by
  induction fuel generalizing s with
  | zero => exact .refl
  | succ fuel ih =>
    have honce := moves_lookOnce hrest
    rw [lookPasses_succ]
    cases hlook : lookOnce i s with rw [hlook] at honce
    | started t => exact honce
    | settled t => exact honce.1.trans (ih honce.2)
    | passed t => exact honce.1

theorem stockMoves_look : StockMoves s (look i s) := by
  refine KeepsStock.after_moves ?_ (stockMoves_lookPasses hrest (lookFuel (s.lane i)))
  exact keepsStock_setLane ⟨Iff.rfl, rfl, rfl, rfl⟩

end

/-! ### Transactions that end, jobs that leave, records that are taken -/

theorem stockMoves_endTransaction (i : Fin 4) (f : Final) (s : State) : StockMoves s (endTransaction i f s) := by
  cases htxn : (s.lane i).txn with
  | none =>
    have hsame : endTransaction i f s = s := by rw [endTransaction, htxn]
    rw [hsame]
  | some x => exact .single (.ends f htxn)

theorem stockMoves_abandonLane (i : Fin 4) (s : State) : StockMoves s (abandonLane i s) := by
  unfold abandonLane
  split <;> rename_i hs
  · exact .refl
  · exact .refl
  · exact (keepsStock_recover s (by simp [hs]) false).moves
  · exact stockMoves_endTransaction ..
  · exact ((keepsStock_recover s (by simp [hs]) true).trans (keepsStock_post ..)).moves

/-- The job found first is the one that leaves (R73). -/
theorem perm_of_find? {α : Type} {p : α → Bool} {l : List α} {a : α} (h : l.find? p = some a) :
    l.Perm ([a] ++ l.eraseP p) := by
  obtain ⟨ha, before, after, rfl, hbefore⟩ := List.find?_eq_some_iff_append.1 h
  rw [List.eraseP_append_right _ (by simpa using hbefore), List.eraseP_cons_of_pos ha]
  exact List.perm_middle

theorem stockMoves_cancelJob {s : State} (hslot : s.slotFree = true) (i : Fin 4) (number : Nat) :
    StockMoves s (cancelJob i number s) := by
  unfold cancelJob
  split
  · rename_i hfound
    exact (keepsStock_wakeLane ..).after_moves (stockMoves_endJob (perm_of_find? hfound) hslot nofun)
  · exact .refl

theorem stockMoves_flushJobs {s : State} {i : Fin 4} (hslots : (s.lane i).jobs.length ≤ s.freeSlots) :
    StockMoves s (flushJobs i s) :=
  .single (.removes (status := .cancelled) (by rw [List.append_nil]) hslots nofun)

theorem stockMoves_drainHead {s : State} {i : Fin 4} {j : Job} {rest : List Job} (hjobs : (s.lane i).jobs = j :: rest)
    (hslot : s.slotFree = true) : StockMoves s (drainHead i j rest s) := by
  have hcounted : KeepsStock s { s with drainCancelled := s.drainCancelled + 1 } := .of_tables rfl rfl rfl rfl
  exact hcounted.trans_moves (stockMoves_endJob (.of_eq hjobs) ((slotFree_of_kept hcounted).trans hslot) nofun)

theorem stockMoves_arbitrate (s : State) : StockMoves s (arbitrate s) := by
  rcases arbitrate_cases s with h | ⟨_, _, h⟩ | ⟨_, _, _, _, _, h⟩ | ⟨_, _, _, _, _, _, _, h⟩ |
    ⟨_, _, _, _, _, _, _, hrecords, h⟩ <;> rw [h]
  · exact .single (.keeps (.of_tables rfl rfl rfl rfl))
  · exact .single (.keeps (.of_tables rfl rfl rfl rfl))
  · exact .single (.keeps (.of_tables rfl rfl rfl rfl))
  · exact .single (.takes hrecords)

/-! ### Admitted commands (R142) -/

/-- A SUBMIT that is accepted finds a free block for the data it brings (R67 check 5). -/
theorem checkSubmit_space {body : List Byte} {s : State} {q : JobRequest} (h : checkSubmit body s = .ok q)
    (hneeds : q.needsBlock = true) : 0 < s.pool.free := by
  unfold checkSubmit at h
  split at h
  · split_ifs at h
    split at h
    · unfold checkJobRefs at h
      dsimp only at h
      split_ifs at h with _ _ _ _ _ _ hspace
      cases h
      exact Nat.pos_of_ne_zero fun hnone => hspace ⟨hneeds, hnone⟩
    · cases h
  · cases h

theorem checkCancel_space {body : List Byte} {s : State} {a : Fin 4 × Nat} (h : checkCancel body s = .ok a) :
    s.slotFree = true := by
  unfold checkCancel at h
  split at h
  · split at h
    · split at h
      · cases h
      · split at h <;> split at h <;> cases h
        assumption
    · cases h
  · cases h

theorem checkFlushLane_space {body : List Byte} {s : State} {i : Fin 4} (h : checkFlushLane body s = .ok i) :
    (s.lane i).jobs.length ≤ s.freeSlots := by
  unfold checkFlushLane at h
  split at h
  · cases h
  · split_ifs at h with hspace
    cases h
    exact Nat.le_of_not_lt hspace

section
variable (tag : Byte) (body : List Byte) (s : State)

theorem stockMoves_carryOut {α : Type} {kind : Byte} {checked : Checked α} {effect : α → State → State}
    (heffect : ∀ a, checked = .ok a → StockMoves s (effect a s)) :
    StockMoves s (carryOut tag kind checked effect s) := by
  cases checked with
  | error status => exact (keepsStock_makeReady ..).moves
  | ok a => exact heffect a rfl

theorem stockMoves_carryOut_of_kept {α : Type} {kind : Byte} {checked : Checked α} {effect : α → State → State}
    (heffect : ∀ a, KeepsStock s (effect a s)) : StockMoves s (carryOut tag kind checked effect s) :=
  stockMoves_carryOut tag s fun a _ => (heffect a).moves

theorem stockMoves_runStart : StockMoves s (runStart tag body s) := by
  refine stockMoves_carryOut_of_kept tag s fun _ => .trans ?_ (keepsStock_makeReady ..)
  refine .trans ?_ (keepsStock_startCycle ..)
  exact .of_tables rfl rfl rfl rfl

theorem stockMoves_runStop : StockMoves s (runStop tag body s) := by
  refine stockMoves_carryOut_of_kept tag s fun _ => .trans ?_ (keepsStock_finishDrain ..)
  exact keepsStock_mapLanes Lane.keepsStock_stopped rfl rfl rfl rfl

theorem stockMoves_runSetCycle : StockMoves s (runSetCycle tag body s) :=
  stockMoves_carryOut_of_kept tag s fun n =>
    keepsStock_mapLanes (f := fun l => l.withInterval n) (fun _ => ⟨Iff.rfl, rfl, rfl, rfl⟩) rfl rfl rfl rfl

theorem stockMoves_runDefinePoll : StockMoves s (runDefinePoll tag body s) :=
  stockMoves_carryOut tag s fun q _ =>
    (keepsStock_makeReady ..).after_moves (.single (.redefines q.poll rfl))

theorem stockMoves_runDeletePoll : StockMoves s (runDeletePoll tag body s) :=
  stockMoves_carryOut tag s fun p _ => (keepsStock_makeReady ..).after_moves (.single (.redefines p rfl))

theorem keepsStock_pausePoll (p : Fin 48) : KeepsStock s (pausePoll p s) := by
  rw [pausePoll, unlistPoll_eq]
  refine .trans (keepsStock_setPoll (x := { s.poll p with state := .paused }) ⟨rfl, rfl, rfl⟩) ?_
  exact keepsStock_mapLanes (unlisted_keepsStock s.op p) rfl rfl rfl rfl

theorem stockMoves_runSetPollState : StockMoves s (runSetPollState tag body s) := by
  refine stockMoves_carryOut_of_kept tag s fun a => ?_
  split
  · refine .trans ?_ (keepsStock_makeReady ..)
    exact keepsStock_setPoll ⟨rfl, rfl, rfl⟩
  · exact .trans (keepsStock_pausePoll ..) (keepsStock_makeReady ..)

theorem stockMoves_runSetLane : StockMoves s (runSetLane tag body s) := by
  refine stockMoves_carryOut_of_kept tag s fun q => .trans ?_ (keepsStock_makeReady ..)
  split
  · exact (keepsStock_withSettings s q).trans (keepsStock_post ..)
  · exact keepsStock_withSettings s q

theorem stockMoves_runLaneReset : StockMoves s (runLaneReset tag body s) := by
  refine stockMoves_carryOut tag s fun i _ => KeepsStock.after_moves ?_ (stockMoves_abandonLane i s)
  exact keepsStock_setLane ⟨Iff.rfl, rfl, rfl, rfl⟩

theorem stockMoves_runSetTargetState : StockMoves s (runSetTargetState tag body s) := by
  refine stockMoves_carryOut_of_kept tag s fun a => .trans ?_ (keepsStock_makeReady ..)
  split
  · exact keepsStock_quarantineTarget ..
  · exact keepsStock_reviveTarget ..

theorem stockMoves_submit {q : JobRequest} (hspace : q.needsBlock = true → 0 < s.pool.free) :
    StockMoves s (submit tag q s) := by
  have hnumbered : KeepsStock s { s with nextJob := nextNumber s.jobNumber } := .of_tables rfl rfl rfl rfl
  have hblock : (newJob tag s.jobNumber q).data.isSome = q.needsBlock := by
    rw [newJob]
    cases q.needsBlock <;> rfl
  have hqueued := StockMove.enqueues (s := { s with nextJob := nextNumber s.jobNumber }) (q.lane s)
    (j := newJob tag s.jobNumber q) fun hdata =>
      ⟨(q.needsBlock_iff.1 (hblock ▸ hdata)).1, hspace (hblock ▸ hdata)⟩
  rw [hblock] at hqueued
  exact ((keepsStock_wakeLane ..).trans (keepsStock_makeReady ..)).after_moves
    (hnumbered.trans_moves (.single hqueued))

theorem stockMoves_runSubmit : StockMoves s (runSubmit tag body s) :=
  stockMoves_carryOut tag s fun _ hq => stockMoves_submit tag s (checkSubmit_space hq)

theorem stockMoves_runCancel : StockMoves s (runCancel tag body s) :=
  stockMoves_carryOut tag s fun _ ha =>
    (keepsStock_finishDrain ..).after_moves (stockMoves_cancelJob (checkCancel_space ha) ..)

theorem stockMoves_runFlushLane : StockMoves s (runFlushLane tag body s) := by
  refine stockMoves_carryOut tag s fun i hi => ?_
  have hflushed := stockMoves_flushJobs (checkFlushLane_space hi)
  refine (keepsStock_finishDrain ..).after_moves ?_
  split
  · exact hflushed
  · exact (keepsStock_wakeLane ..).after_moves hflushed

theorem stockMoves_runSetAlert : StockMoves s (runSetAlert tag body s) := by
  refine stockMoves_carryOut_of_kept tag s fun a => ?_
  cases a with
  | inl q => exact (keepsStock_enableLine s q).trans (keepsStock_makeReady ..)
  | inr l => exact (keepsStock_disableLine s l).trans (keepsStock_makeReady ..)

/-- Every command acts by moves (12.2). -/
theorem stockMoves_commandOf {kind : Byte} {run : Byte → List Byte → State → State}
    (hkind : commandOf kind = some run) : StockMoves s (run tag body s) := by
  unfold commandOf at hkind
  split at hkind <;> cases hkind
  · exact stockMoves_carryOut_of_kept tag s fun _ => keepsStock_makeReady ..
  · exact stockMoves_carryOut_of_kept tag s fun _ => keepsStock_makeReady ..
  · exact stockMoves_carryOut_of_kept tag s fun c => (keepsStock_clearClass s c).trans (keepsStock_makeReady ..)
  · exact stockMoves_carryOut_of_kept tag s fun _ => .of_tables rfl rfl rfl rfl
  · exact stockMoves_runStart tag body s
  · exact stockMoves_runStop tag body s
  · exact stockMoves_runSetCycle tag body s
  · exact stockMoves_runDefinePoll tag body s
  · exact stockMoves_runDeletePoll tag body s
  · exact stockMoves_runSetPollState tag body s
  · exact stockMoves_carryOut_of_kept tag s fun _ => keepsStock_makeReady ..
  · exact stockMoves_runSetLane tag body s
  · exact stockMoves_carryOut_of_kept tag s fun _ => keepsStock_withChoice s fun _ _ => keepsStock_makeReady ..
  · exact stockMoves_runLaneReset tag body s
  · exact stockMoves_carryOut_of_kept tag s fun _ => (keepsStock_changeTarget ..).trans (keepsStock_makeReady ..)
  · exact stockMoves_carryOut_of_kept tag s fun t =>
      ((keepsStock_removeProbe s t).trans (keepsStock_changeTarget ..)).trans (keepsStock_makeReady ..)
  · exact stockMoves_carryOut_of_kept tag s fun _ => keepsStock_makeReady ..
  · exact stockMoves_runSetTargetState tag body s
  · exact stockMoves_runSubmit tag body s
  · exact stockMoves_runCancel tag body s
  · exact stockMoves_runFlushLane tag body s
  · exact stockMoves_runSetAlert tag body s
  · exact stockMoves_carryOut_of_kept tag s fun _ => keepsStock_makeReady ..
  · exact stockMoves_carryOut_of_kept tag s fun _ => .of_tables rfl rfl rfl rfl

/-! ### Admission and the receiver (R130 to R134) -/

theorem stockMoves_runFrame (kind : Byte) : StockMoves s (runFrame kind tag body s) := by
  unfold runFrame
  split
  · rename_i hkind
    exact stockMoves_commandOf tag body s hkind
  · exact (keepsStock_makeReady ..).moves

theorem stockMoves_admission {effect : State → State} (heffect : ∀ u, StockMoves u (effect u)) (kind : Byte) :
    StockMoves s (admission kind tag effect s) := by
  rcases admission_cases kind tag effect s with ⟨_, _, _, hadm⟩ | ⟨status, _, href⟩
  · rw [hadm]
    refine .trans (.single (.keeps ?_)) (heffect _)
    exact .of_tables rfl rfl rfl rfl
  · rw [href]
    exact (keepsStock_refuse ..).moves

theorem keepsStock_setReceiver (r : Receiver) : KeepsStock s { s with receiver := r } := .of_tables rfl rfl rfl rfl

theorem stockMoves_judge (frame : List Byte) : StockMoves s (judge frame s) := by
  have hhunt : KeepsStock s (toHunt s) := keepsStock_setReceiver ..
  unfold judge
  dsimp only
  split
  · split
    · exact hhunt.trans_moves (stockMoves_admission _ _ (fun u => stockMoves_runFrame _ _ u _) _)
    · exact hhunt.moves
  · exact (hhunt.trans (keepsStock_hostError ..)).moves

/-- A byte that is received (R130). -/
theorem stockMoves_takeByte (b : Byte) : StockMoves s (takeByte b s) := by
  have hreceiver (r : Receiver) : StockMoves s { s with receiver := r } := (keepsStock_setReceiver s r).moves
  unfold takeByte
  split
  · split
    · exact hreceiver _
    · exact .refl
  · split
    · exact hreceiver _
    · exact (keepsStock_hostError ..).after_moves (hreceiver _)
  · split
    · exact hreceiver _
    · exact hreceiver _
  · split
    · exact stockMoves_judge ..
    · exact hreceiver _

end

/-! ### One happening -/

/-- Every command of the host, with any operands, is a frame of a command that the decoder knows (12.2). -/
theorem exec_eq_hostCommand {c : Instr} {kind tag : Byte} {body : List Byte}
    (hframe : c.hostFrame = some (kind, tag, body)) (s : State) :
    ∃ run, commandOf kind = some run ∧ exec c s = hostCommand kind tag (run tag body) s := by
  cases c <;> cases hframe <;> exact ⟨_, rfl, rfl⟩

section
variable {s : State}

theorem answersMoves_finish {u : State} (h : StockMoves s u) : Answers (StockMoves s) (finish u) :=
  .next (h.trans (stockMoves_arbitrate u))

theorem answersMoves_finish_of_kept {u : State} (h : KeepsStock s u) : Answers (StockMoves s) (finish u) :=
  answersMoves_finish h.moves

theorem answersMoves_endStep {u : State} (h : StockMoves s u) (i : Fin 4) (f : Final) :
    Answers (StockMoves s) (endStep i f u) :=
  answersMoves_finish ((keepsStock_finishDrain ..).after_moves (h.trans (stockMoves_endTransaction i f u)))

/-- The end of an attempt that the lane counts (R52, R53). -/
theorem answersMoves_countedEnd (i : Fin 4) (counts : LaneCounts) (f : Final) :
    Answers (StockMoves s) (endStep i f (s.setLane i { s.lane i with counts := counts })) := by
  refine answersMoves_endStep (KeepsStock.moves ?_) i f
  exact keepsStock_setLane ⟨Iff.rfl, rfl, rfl, rfl⟩

theorem answersMoves_recoveryStep {i : Fin 4} {state : LaneState} {ended : State} (h : KeepsStock s ended) :
    Answers (StockMoves s) (recoveryStep i state ended s) :=
  answersMoves_finish_of_kept (h.trans (keepsStock_finishDrain ..))

theorem answersMoves_execAttemptAddrNack (i : Fin 4) : Answers (StockMoves s) (execAttemptAddrNack i s) :=
  .onTransaction .refl fun _ hx =>
    .ite (fun _ => answersMoves_finish (.single (.retries _ hx))) (answersMoves_endStep .refl _ _)

theorem answersMoves_execTransactionEnd (i : Fin 4) (result : BusResult) :
    Answers (StockMoves s) (execTransactionEnd i result s) := by
  refine .onTransaction .refl fun x _ => ?_
  split
  · exact answersMoves_endStep .refl _ _
  · exact .next .refl

theorem answersMoves_execRecoveryEnd (i : Fin 4) (result : RecoveryResult) :
    Answers (StockMoves s) (execRecoveryEnd i result s) := by
  refine .ite (fun hs => ?_) (.next .refl)
  cases result with
  | busFree => exact answersMoves_recoveryStep (keepsStock_recoveredIdle s (by simp [hs]))
  | sdaHeld => exact answersMoves_recoveryStep (keepsStock_faultLane s (by simp [hs]) ..)

theorem answersMoves_execDrainRemoval (i : Fin 4) : Answers (StockMoves s) (execDrainRemoval i s) := by
  unfold execDrainRemoval
  split
  · rename_i hjobs
    exact .ite (fun hdrain => answersMoves_finish
      ((keepsStock_finishDrain ..).after_moves (stockMoves_drainHead hjobs hdrain.2.2))) (.next .refl)
  · exact .next .refl

theorem answersMoves_execAlertInputChange (l : Fin 8) (high : Bool) :
    Answers (StockMoves s) (execAlertInputChange l high s) := by
  have hpins : KeepsStock s { s with alertPins := s.alertPins.set l high } := .of_tables rfl rfl rfl rfl
  exact .ite (fun _ => answersMoves_finish_of_kept (hpins.trans (keepsStock_takeLevel ..))) (.next hpins.moves)

theorem stockMoves_frameSent (content : FrameContent) (s : State) : StockMoves s (frameSent content s) := by
  unfold frameSent
  split
  · exact (keepsStock_setReceiver ..).moves
  · exact .single (.resets rfl rfl rfl rfl)
  all_goals exact .refl

theorem answersMoves_execTransmitEnd : Answers (StockMoves s) (execTransmitEnd s) := by
  have hfree : KeepsStock s { s with transmitter := none } := .of_tables rfl rfl rfl rfl
  unfold execTransmitEnd
  split
  · exact answersMoves_finish (hfree.trans_moves (stockMoves_frameSent ..))
  · exact .next .refl

theorem answersMoves_event {c : Instr} (hframe : c.hostFrame = none) : Answers (StockMoves s) (exec c s) := by
  cases c <;> cases hframe
  case powerOn | resetInput | supplyBelowOperatingLevel => exact .next (.single (.resets rfl rfl rfl rfl))
  case resetRelease => exact .ite (fun _ => .next (.single (.resets rfl rfl rfl rfl))) (.next .refl)
  case initEnd => exact .ite (fun _ => answersMoves_finish_of_kept (.of_tables rfl rfl rfl rfl)) (.next .refl)
  case receiveByte => exact .ite (fun _ => answersMoves_finish (stockMoves_takeByte ..)) (.next .refl)
  case gapTimeout =>
    exact .ite (fun _ => answersMoves_finish_of_kept ((keepsStock_setReceiver s _).trans (keepsStock_hostError ..)))
      (.next .refl)
  case transmitEnd => exact answersMoves_execTransmitEnd
  case cycleStart => exact .ite (fun _ => answersMoves_finish_of_kept (keepsStock_startCycle ..)) (.next .refl)
  case lookForWork => exact .ite (fun hlook => answersMoves_finish (stockMoves_look (by simp [hlook.1]))) (.next .refl)
  case attemptAddrNack => exact answersMoves_execAttemptAddrNack _
  case stretchTimeout => exact .onTransaction .refl fun _ _ => answersMoves_countedEnd _ _ _
  case busStuck => exact .onTransaction .refl fun _ _ => answersMoves_endStep .refl _ _
  case arbLost => exact .onTransaction .refl fun _ _ => answersMoves_countedEnd _ _ _
  case transactionEnd => exact answersMoves_execTransactionEnd _ _
  case recoveryEnd => exact answersMoves_execRecoveryEnd _ _
  case recoverySclTimeout =>
    exact .ite (fun hs => answersMoves_recoveryStep (keepsStock_faultLane s (by simp [hs]) ..)) (.next .refl)
  case drainRemoval => exact answersMoves_execDrainRemoval _
  case alertInputChange => exact answersMoves_execAlertInputChange _ _
  case alertFilterExpiry => exact .ite (fun _ => answersMoves_finish_of_kept (keepsStock_takeLevel ..)) (.next .refl)
  case alertEvaluation =>
    have hevaluated := keepsStock_withChoice s fun picks u => keepsStock_evaluateLines u picks
    exact .ite (fun _ => answersMoves_finish_of_kept hevaluated) (.next .refl)

/-- Every command and event is a chain of moves. -/
theorem exec_answersMoves (c : Instr) : Answers (StockMoves s) (exec c s) := by
  cases hframe : c.hostFrame with
  | none => exact answersMoves_event hframe
  | some frame =>
    obtain ⟨run, hkind, hexec⟩ := exec_eq_hostCommand hframe s
    rw [hexec]
    refine .ite (fun _ => answersMoves_finish ?_) (.next .refl)
    exact (keepsStock_setReceiver s _).trans_moves
      (stockMoves_admission _ _ (fun u => stockMoves_commandOf _ _ u hkind) _)

end

/-- What every move keeps, every step keeps. -/
theorem step_keeps_of_moves {P : State → Prop} (hmove : ∀ s u, P s → StockMove s u → P u) {s t : State} (h : P s)
    (hstep : step s = .next t) : P t := by
  have hmoves (u v : State) (hm : StockMoves u v) (hu : P u) : P v := by
    induction hm with
    | refl => exact hu
    | tail _ hlast ih => exact hmove _ _ ih hlast
  exact step_answers (P := P) (fun u q hu => hmove u _ hu (.keeps (.of_tables rfl rfl rfl rfl)))
    (fun c u hu v hv => hmoves u v (exec_answersMoves c v hv) hu) h hstep

end Sys2Proof.Machine

/-! PROOF. The accounts of blocks and record slots (R106, R109): what each operation makes of them, blocks and slots
that have left one holder for another being in hand meanwhile, and the step lemma. -/

namespace Sys2Proof.Machine

/-! ### What a lane holds -/

/-- The blocks that a Reservation takes (R109). -/
def Reservation.blocks (r : Reservation) : Nat := if r = .slotAndBlock then 1 else 0

/-- Blocks held by a number of jobs (R106). -/
def jobBlocks (jobs : List Job) : Nat := (jobs.map Job.blocks).sum

theorem jobBlocks_append (jobs more : List Job) : jobBlocks (jobs ++ more) = jobBlocks jobs + jobBlocks more := by
  simp [jobBlocks]

theorem jobBlocks_perm {jobs more : List Job} (h : jobs.Perm more) : jobBlocks jobs = jobBlocks more :=
  (h.map _).sum_eq

/-- The mark of STOP is none on a Data Block. -/
theorem jobBlocks_of_unmarked {jobs more : List Job} (h : jobs.map Job.unmarked = more.map Job.unmarked) :
    jobBlocks jobs = jobBlocks more := by
  have hunmarked (js : List Job) : jobBlocks js = ((js.map Job.unmarked).map Job.blocks).sum := by
    rw [List.map_map]
    rfl
  rw [hunmarked, hunmarked, h]

/-- Only WRITE jobs hold data (R65). -/
def HoldWritesOnly (jobs : List Job) : Prop := ∀ j ∈ jobs, j.data.isSome = true → j.kind = .write

theorem HoldWritesOnly.of_unmarked {jobs more : List Job} (h : more.map Job.unmarked = jobs.map Job.unmarked)
    (hjobs : HoldWritesOnly jobs) : HoldWritesOnly more := by
  intro j hj hdata
  obtain ⟨k, hk, hkj⟩ := List.mem_map.1 (h ▸ List.mem_map_of_mem (f := Job.unmarked) hj)
  have hkind : k.unmarked.kind = j.unmarked.kind := by rw [hkj]
  have hsame : k.unmarked.data = j.unmarked.data := by rw [hkj]
  exact hkind.symm.trans (hjobs k hk (hsame.symm ▸ hdata))

section
variable {l : Lane} {x : Transaction}

theorem Lane.Sound.jobs (h : l.Sound) : HoldWritesOnly l.jobs := h.2.2

/-- A lane with a transaction holds its Reservation (R109). -/
theorem Lane.Sound.serving (h : l.Sound) (ht : l.txn = some x) :
    l.state = .busy ∧ x.Sound ∧ l.reservation = reservationFor x.work x.op := by
  obtain ⟨hbusy, hheld, _⟩ := h
  rw [ht] at hbusy hheld
  exact ⟨hbusy.2 rfl, hheld⟩

theorem Lane.Sound.resting (h : l.Sound) (hs : l.state ≠ .busy) : l.txn = none ∧ l.reservation = .none := by
  obtain ⟨hbusy, hheld, _⟩ := h
  have hnone : l.txn = none := Option.not_isSome_iff_eq_none.1 (mt hbusy.2 hs)
  rw [hnone] at hheld
  exact ⟨hnone, hheld⟩

theorem Lane.sound_of_serving (hs : l.state = .busy) (ht : l.txn = some x) (hx : x.Sound)
    (hr : l.reservation = reservationFor x.work x.op) (hj : HoldWritesOnly l.jobs) : l.Sound := by
  refine ⟨by simp [hs, ht], ?_, hj⟩
  rw [ht]
  exact ⟨hx, hr⟩

theorem Lane.sound_of_resting (hs : l.state ≠ .busy) (ht : l.txn = none) (hr : l.reservation = .none)
    (hj : HoldWritesOnly l.jobs) : l.Sound := by
  refine ⟨by simp [hs, ht], ?_, hj⟩
  rw [ht]
  exact hr

/-- The queue changes, the transaction stays. -/
theorem Lane.Sound.withJobs (h : l.Sound) {jobs : List Job} (hj : HoldWritesOnly jobs) :
    ({ l with jobs := jobs } : Lane).Sound :=
  ⟨h.1, h.2.1, hj⟩

theorem Lane.blocks_serving (ht : l.txn = some x) :
    l.blocks = jobBlocks l.jobs + jobBlocks x.job.toList + l.reservation.blocks := by
  rw [Lane.blocks, Lane.runningJob, ht]
  rfl

theorem Lane.blocks_resting (ht : l.txn = none) : l.blocks = jobBlocks l.jobs + l.reservation.blocks := by
  rw [Lane.blocks, Lane.runningJob, ht]
  rfl

theorem Lane.blocks_withJobs (l : Lane) (jobs : List Job) :
    ({ l with jobs := jobs } : Lane).blocks + jobBlocks l.jobs = l.blocks + jobBlocks jobs := by
  have hblocks (k : Lane) : k.blocks = jobBlocks k.jobs + (jobBlocks k.runningJob.toList + k.reservation.blocks) :=
    Nat.add_assoc ..
  rw [hblocks, hblocks l]
  change jobBlocks jobs + (jobBlocks l.runningJob.toList + l.reservation.blocks) + _ = _
  omega

end

/-- The lane holds what it held, and stays sound. -/
structure Lane.KeepsHoldings (a b : Lane) : Prop where
  sound : a.Sound → b.Sound
  blocks : b.blocks = a.blocks
  reservation : b.reservation = a.reservation

theorem Lane.KeepsHoldings.refl (a : Lane) : a.KeepsHoldings a := ⟨id, rfl, rfl⟩

theorem Lane.KeepsHoldings.trans {a b c : Lane} (hab : a.KeepsHoldings b) (hbc : b.KeepsHoldings c) :
    a.KeepsHoldings c where
  sound := hbc.sound ∘ hab.sound
  blocks := hbc.blocks.trans hab.blocks
  reservation := hbc.reservation.trans hab.reservation

theorem Lane.KeepsStock.keepsHoldings {a b : Lane} (h : a.KeepsStock b) : a.KeepsHoldings b where
  sound := by
    rintro ⟨hbusy, hheld, hjobs⟩
    refine ⟨?_, ?_, HoldWritesOnly.of_unmarked h.jobs hjobs⟩
    · rw [h.busy, h.txn]
      exact hbusy
    · rw [h.txn, h.reservation]
      exact hheld
  blocks := by
    cases ht : a.txn with
    | none =>
      rw [Lane.blocks_resting ht, Lane.blocks_resting (h.txn.trans ht), h.reservation, jobBlocks_of_unmarked h.jobs]
    | some x =>
      rw [Lane.blocks_serving ht, Lane.blocks_serving (h.txn.trans ht), h.reservation, jobBlocks_of_unmarked h.jobs]
  reservation := h.reservation

/-- A transaction that serves the same work holds the same (R25, R54). -/
theorem Lane.keepsHoldings_withTxn {a b : Lane} {x y : Transaction} (ha : a.txn = some x) (hb : b.txn = some y)
    (hwork : y.work = x.work) (hop : y.op = x.op) (hstate : b.state = a.state) (hr : b.reservation = a.reservation)
    (hj : b.jobs = a.jobs) : a.KeepsHoldings b where
  sound h := by
    obtain ⟨hbusy, hx, hheld⟩ := h.serving ha
    refine Lane.sound_of_serving (hstate.trans hbusy) hb ?_ (by rw [hr, hwork, hop, hheld]) (hj ▸ h.jobs)
    rw [Transaction.Sound, hwork, hop]
    exact hx
  blocks := by rw [Lane.blocks_serving ha, Lane.blocks_serving hb, hr, hj, Transaction.job, hwork, Transaction.job]
  reservation := hr

theorem definitionEndMark_op (s : State) (p : Fin 48) (x : Transaction) : (definitionEndMark s p x).op = x.op := by
  unfold definitionEndMark
  split
  · split <;> rfl
  · split <;> rfl
  · rfl
  · rfl

theorem definitionEnded_lane (s t u : State) (p : Fin 48) (i : Fin 4) :
    ({ t with lanes := s.lanes.map (definitionEnded u p) } : State).lane i = definitionEnded u p (s.lane i) :=
  Table.get_map ..

/-- A mark on a transaction moves no block (R25). -/
theorem definitionEnded_keepsHoldings (s : State) (p : Fin 48) (l : Lane) :
    l.KeepsHoldings (definitionEnded s p l) := by
  refine .trans ?_ (unlisted_keepsStock s.op p { l with txn := l.txn.map (definitionEndMark s p) }).keepsHoldings
  cases ht : l.txn with
  | none => exact Lane.KeepsStock.keepsHoldings ⟨Iff.rfl, ht.symm, rfl, rfl⟩
  | some x =>
    exact Lane.keepsHoldings_withTxn ht rfl (definitionEndMark_work s p x) (definitionEndMark_op s p x) rfl rfl rfl

/-! ### The accounts with blocks and slots in hand -/

/-- Blocks held by a number of records (R106). -/
def recordBlocks (rs : List Record) : Nat := (rs.map Record.blocks).sum

/-- Blocks held by the lanes (R106). -/
def State.laneBlocks (s : State) : Nat := (s.lanes.toList.map Lane.blocks).sum

theorem laneBlocks_congr {s u : State} (h : ∀ i, (u.lane i).blocks = (s.lane i).blocks) :
    u.laneBlocks = s.laneBlocks := by
  simp only [State.laneBlocks, State.lanes_toList, List.map_map]
  exact congrArg List.sum (List.map_congr_left fun i _ => h i)

theorem laneBlocks_setLane (i : Fin 4) (l : Lane) (s : State) :
    (s.setLane i l).laneBlocks + (s.lane i).blocks = s.laneBlocks + l.blocks := by
  have hsum (u : State) : u.laneBlocks = ∑ k, (u.lane k).blocks := by
    rw [State.laneBlocks, State.lanes_toList, List.map_map, Fin.sum_univ_def]
    rfl
  rw [hsum, hsum, ← Finset.add_sum_erase _ _ (Finset.mem_univ i),
    ← Finset.add_sum_erase Finset.univ (fun k => (s.lane k).blocks) (Finset.mem_univ i), State.setLane_lane_self]
  have hrest : ∑ k ∈ Finset.univ.erase i, ((s.setLane i l).lane k).blocks =
      ∑ k ∈ Finset.univ.erase i, (s.lane k).blocks :=
    Finset.sum_congr rfl fun k hk => by rw [State.setLane_lane_ne _ _ _ _ (Finset.ne_of_mem_erase hk)]
  rw [hrest]
  omega

/-- Every block and every record slot is accounted for, `blocks` of them and `slots` of them being in hand: they have
left one holder for another (R106, R109). -/
structure Accounts (s : State) (blocks slots : Nat) : Prop where
  lanes : ∀ i, (s.lane i).Sound
  pool : s.pool.free + s.laneBlocks + recordBlocks s.records + blocks = 64
  lowWater : s.pool.lowWater ≤ s.pool.free
  slots : s.records.length + s.reservations + slots ≤ 48

theorem spaceInv_iff {s : State} : SpaceInv s ↔ Accounts s 0 0 := by
  have hheld : s.heldBlocks = s.laneBlocks + recordBlocks s.records := rfl
  rw [SpaceInv, hheld, ← Nat.add_assoc]
  exact ⟨fun ⟨hlanes, hpool, hlow, hslots⟩ => ⟨hlanes, hpool, hlow, hslots⟩,
    fun ⟨hlanes, hpool, hlow, hslots⟩ => ⟨hlanes, hpool, hlow, hslots⟩⟩

section
variable {s u : State} {blocks slots : Nat}

/-- Blocks move between the pool, the records and the hand; slots that leave the hand are a record's or free. -/
theorem Accounts.of_lanes {blocks' slots' : Nat} (h : Accounts s blocks slots)
    (hl : ∀ i, (s.lane i).KeepsHoldings (u.lane i))
    (hpool : u.pool.free + recordBlocks u.records + blocks' = s.pool.free + recordBlocks s.records + blocks)
    (hlow : s.pool.lowWater ≤ s.pool.free → u.pool.lowWater ≤ u.pool.free)
    (hslots : u.records.length + slots' ≤ s.records.length + slots) : Accounts u blocks' slots' where
  lanes i := (hl i).sound (h.lanes i)
  pool := by
    have hlanes := laneBlocks_congr fun i => (hl i).blocks
    have hs := h.pool
    omega
  lowWater := hlow h.lowWater
  slots := by
    have hreserved := reservations_congr fun i => (hl i).reservation
    have hs := h.slots
    omega

theorem Accounts.of_kept (h : Accounts s blocks slots) (hk : KeepsStock s u) : Accounts u blocks slots :=
  h.of_lanes (fun i => (hk.lanes i).keepsHoldings) (by rw [hk.free, hk.records]) hk.lowWater (by rw [hk.records])

/-- Slots in hand are given up. -/
theorem Accounts.giveSlots (h : Accounts s blocks slots) : Accounts s blocks 0 :=
  h.of_lanes (fun _ => .refl _) rfl id (by omega)

/-- Free slots are taken in hand (R109). -/
theorem Accounts.takeSlots (h : Accounts s blocks 0) {n : Nat} (hn : n ≤ s.freeSlots) : Accounts s blocks n where
  lanes := h.lanes
  pool := h.pool
  lowWater := h.lowWater
  slots := by
    have hs := h.slots
    rw [State.freeSlots, State.slotsUsed, Config.recordSlots] at hn
    omega

/-- A free block is taken in hand (R107). -/
theorem Accounts.claim (h : Accounts s blocks slots) (c : Prop) [Decidable c] (hfree : c → 0 < s.pool.free) :
    Accounts (if c then claimBlock s else s) (blocks + if c then 1 else 0) slots := by
  split
  · rename_i hc
    have hpos := hfree hc
    refine h.of_lanes (fun _ => .refl _) ?_ (fun _ => Nat.min_le_right _ _) le_rfl
    change s.pool.free - 1 + recordBlocks s.records + (blocks + 1) = _
    omega
  · exact h

theorem claim_lane (c : Prop) [Decidable c] (s : State) (i : Fin 4) :
    (if c then claimBlock s else s).lane i = s.lane i := by
  split <;> rfl

/-- A block in hand is freed (R108). -/
theorem Accounts.releaseIf {held : Bool} (h : Accounts s (blocks + if held then 1 else 0) slots) :
    Accounts (releaseIf held s) blocks slots := by
  refine h.of_lanes (fun i => (releaseIf_sameButTiers held s i).keepsStock.keepsHoldings) ?_ (fun hlow => ?_) ?_
  · rw [releaseIf_frame]
    dsimp only
    omega
  · rw [releaseIf_frame]
    exact hlow.trans (Nat.le_add_right ..)
  · rw [releaseIf_frame]

/-- A record takes a slot in hand, and a block in hand for its data (R110, R112). -/
theorem Accounts.addRecord {r : Record} (h : Accounts s (blocks + r.blocks) (slots + 1)) :
    Accounts (addRecord r s) blocks slots := by
  refine h.of_lanes (fun _ => .refl _) ?_ id ?_
  · change s.pool.free + recordBlocks (s.records ++ [r]) + blocks = _
    simp only [recordBlocks, List.map_append, List.sum_append, List.map_singleton, List.sum_singleton]
    omega
  · rw [length_addRecord]
    omega

/-- What a lane gives up is in hand, and what it takes was (R109). -/
theorem Accounts.setLane {blocks' slots' : Nat} (h : Accounts s blocks slots) {i : Fin 4} {l : Lane} (hl : l.Sound)
    (hblocks : l.blocks + blocks' = (s.lane i).blocks + blocks)
    (hslots : l.reservation.slots + slots' = (s.lane i).reservation.slots + slots) :
    Accounts (s.setLane i l) blocks' slots' where
  lanes k := by
    rw [State.setLane_lane]
    split
    · exact hl
    · exact h.lanes k
  pool := by
    have hmoved := laneBlocks_setLane i l s
    have hs := h.pool
    rw [State.setLane_pool, State.setLane_records]
    omega
  lowWater := h.lowWater
  slots := by
    have hmoved := reservations_setLane i l s
    have hs := h.slots
    rw [State.setLane_records]
    omega

/-- The queue of a lane changes, the blocks of the jobs that leave it or join it being in hand. -/
theorem Accounts.setJobs {blocks' : Nat} (h : Accounts s blocks slots) {i : Fin 4} {jobs : List Job}
    (hjobs : HoldWritesOnly jobs) (hblocks : jobBlocks jobs + blocks' = jobBlocks (s.lane i).jobs + blocks) :
    Accounts (s.setLane i { s.lane i with jobs := jobs }) blocks' slots := by
  have hmoved := (s.lane i).blocks_withJobs jobs
  refine h.setLane ((h.lanes i).withJobs hjobs) ?_ rfl
  dsimp only at hmoved ⊢
  omega

/-! ### Reports (R70, R85, R110, R113 to R118) -/

/-- The block of a read becomes the record's where the outcome is OK, and is freed otherwise (R110). -/
theorem blocks_of_outcome (f : Final) (source : RecordSource) (target : Fin 32) (cycle : Word16) :
    (if (f.status != .ok) = true then 1 else 0) +
      (⟨source, target, cycle, f.status, f.recordData⟩ : Record).blocks = 1 := by
  rw [Record.blocks, Final.recordData]
  cases f.status <;> rfl

theorem getElem?_of_linkedRecord {p : Fin 48} {k : Nat} {r : Record} (h : linkedRecord s p = some (k, r)) :
    s.records[k]? = some r := by
  unfold linkedRecord at h
  split at h
  · obtain ⟨r', hr', hpair⟩ := Option.map_eq_some_iff.1 h
    obtain ⟨rfl, rfl⟩ := Prod.mk.inj hpair
    exact hr'
  · cases h

theorem recordBlocks_set {rs : List Record} {k : Nat} {r : Record} (hr : rs[k]? = some r) (r' : Record) :
    recordBlocks (rs.set k r') + r.blocks = recordBlocks rs + r'.blocks := by
  induction rs generalizing k with
  | nil => cases hr
  | cons a rest ih =>
    cases k with
    | zero =>
      cases hr
      simp only [recordBlocks, List.set_cons_zero, List.map_cons, List.sum_cons]
      omega
    | succ k =>
      have hrest := ih hr
      simp only [recordBlocks, List.set_cons_succ, List.map_cons, List.sum_cons] at hrest ⊢
      omega

theorem Accounts.newPollRecord (h : Accounts s 1 1) (p : Fin 48) (x : Transaction) (f : Final) :
    Accounts (newPollRecord p x f s) 0 0 := by
  refine .releaseIf (.addRecord ?_)
  rw [Nat.zero_add, blocks_of_outcome]
  exact h.of_lanes (fun _ => .refl _) rfl id le_rfl

/-- The slot of the Reservation is freed, the earlier block too (R118). -/
theorem Accounts.mergePollRecord (h : Accounts s 1 1) {p : Fin 48} {k : Nat} {r : Record}
    (hr : s.records[k]? = some r) (f : Final) : Accounts (mergePollRecord p k r f s) 0 0 := by
  refine .releaseIf (.releaseIf (Accounts.of_kept ?_ (keepsStock_wakeAll _)))
  have houtcome := blocks_of_outcome f r.source.supersede r.target s.cycle
  have hset := recordBlocks_set hr ⟨r.source.supersede, r.target, s.cycle, f.status, f.recordData⟩
  have hblocks : r.blocks = if r.data.isSome = true then 1 else 0 := rfl
  refine h.of_lanes (fun _ => .refl _) ?_ id ?_
  · change s.pool.free + recordBlocks (s.records.set k _) + _ = _
    omega
  · change (s.records.set k _).length + 0 ≤ _
    rw [List.length_set]
    omega

theorem Accounts.pollCompletion (h : Accounts s 1 1) (p : Fin 48) (x : Transaction) (f : Final) :
    Accounts (pollCompletion p x f s) 0 0 := by
  have hpoll (e : Poll) : Accounts (s.setPoll p e) 1 1 := h.of_lanes (fun _ => .refl _) rfl id le_rfl
  cases hreports : (s.poll p).reports f with
  | false =>
    rw [pollCompletion_dropped p x f s hreports]
    exact Accounts.releaseIf (held := true) (hpoll _).giveSlots
  | true =>
    cases hlinked : linkedRecord (snapshotWritten p f s) p with
    | none =>
      rw [pollCompletion_new x f hreports hlinked]
      exact (hpoll _).newPollRecord p x f
    | some linked =>
      rw [pollCompletion_merged x f hreports hlinked]
      exact (hpoll _).mergePollRecord (getElem?_of_linkedRecord hlinked) f

theorem Accounts.endAlertRead (h : Accounts s 1 1) (a : Fin 8) (x : Transaction) (f : Final) :
    Accounts (endAlertRead a x f s) 0 0 := by
  refine .releaseIf (Accounts.of_kept (.addRecord ?_) ((keepsStock_alertSnapshot ..).trans (keepsStock_moveLine ..)))
  rw [alertRecord, Nat.zero_add, blocks_of_outcome]
  exact h

/-- The Data Block of a WRITE is freed; the block of a READ becomes the record's for OK, and is freed otherwise
(R70). -/
theorem Accounts.endRunningJob {j : Job}
    (h : Accounts s (j.blocks + (reservationFor (.job j) j.kind).blocks) (reservationFor (.job j) j.kind).slots)
    (f : Final) : Accounts (endRunningJob j f s) 0 0 := by
  have hslots : (reservationFor (.job j) j.kind).slots = 1 := by cases j.kind <;> rfl
  have hread : (reservationFor (.job j) j.kind).blocks =
      (if (j.kind == .read && f.status != .ok) = true then 1 else 0) + (jobRecord s.cycle j f).blocks := by
    rw [jobRecord, Record.blocks, Final.recordData]
    cases j.kind <;> cases f.status <;> rfl
  have hwrite : j.blocks = if j.data.isSome = true then 1 else 0 := rfl
  rw [hslots, hread, hwrite] at h
  refine .releaseIf (.releaseIf (.addRecord ?_))
  convert h using 1
  omega

/-- The report of a transaction gives on all that the transaction held (R55 step 2, R110). -/
theorem Accounts.reportOutcome {x : Transaction} (hx : x.Sound)
    (h : Accounts s (jobBlocks x.job.toList + (reservationFor x.work x.op).blocks) (reservationFor x.work x.op).slots)
    (f : Final) : Accounts (reportOutcome x (reservationFor x.work x.op) f s) 0 0 := by
  rw [Transaction.Sound] at hx
  rw [Transaction.job] at h
  rw [Machine.reportOutcome]
  cases hwork : x.work with rw [hwork] at hx h
  | poll p =>
    have hread : x.op = .read := hx
    rw [hread] at h ⊢
    dsimp only
    split
    · exact Accounts.releaseIf (held := true) (Accounts.giveSlots h)
    · exact Accounts.pollCompletion h p x f
  | alert a =>
    have hread : x.op = .read := hx
    rw [hread] at h
    exact Accounts.endAlertRead h a x f
  | job j =>
    rw [hx.1] at h
    exact Accounts.endRunningJob h f
  | probe => exact h

/-- The end of a transaction (R55). -/
theorem Accounts.endTransaction (h : Accounts s 0 0) {i : Fin 4} {x : Transaction} (htxn : (s.lane i).txn = some x)
    (f : Final) : Accounts (endTransaction i f s) 0 0 := by
  obtain ⟨_, hx, hheld⟩ := (h.lanes i).serving htxn
  have hblocks := Lane.blocks_serving htxn
  have hfree : Accounts (s.setLane i ((s.lane i).endTxn f.status))
      (jobBlocks x.job.toList + (s.lane i).reservation.blocks) (s.lane i).reservation.slots := by
    rw [Lane.endTxn_eq]
    refine h.setLane (Lane.sound_of_resting ?_ rfl rfl (h.lanes i).jobs) ?_ (Nat.zero_add _)
    · cases f.status.needsRecovery <;> nofun
    · rw [Lane.blocks_resting rfl]
      change jobBlocks (s.lane i).jobs + 0 + _ = _
      omega
  rw [endTransaction_eq htxn, hheld]
  rw [hheld] at hfree
  exact (Accounts.reportOutcome hx (hfree.of_kept (keepsStock_targetOutcome ..)) f).of_kept (keepsStock_wakeLane ..)

/-! ### The other moves -/

theorem startTransaction_setLane (i : Fin 4) (x : Transaction) (l : Lane) (s : State) :
    startTransaction i x (s.setLane i l) =
      (if reservationFor x.work x.op = .slotAndBlock then claimBlock s else s).setLane i (l.begin x) := by
  rw [startTransaction, State.setLane_lane_self, State.setLane_setLane]
  split <;> rfl

theorem Transaction.Starts.sound {x : Transaction} (hx : x.Starts s) (hjob : HoldWritesOnly x.job.toList) :
    x.Sound := by
  unfold Transaction.Starts at hx
  unfold Transaction.Sound
  unfold Transaction.job at hjob
  cases hwork : x.work with rw [hwork] at hx hjob
  | poll p => exact hx.1
  | alert a => exact hx
  | job j => exact ⟨hx, hjob j (by simp)⟩
  | probe => exact hx

/-- A transaction takes the result space that it needs (R46, R47, R109). -/
theorem Accounts.start (h : Accounts s 0 0) {i : Fin 4} {x : Transaction} {jobs : List Job}
    (hrest : (s.lane i).state ≠ .busy) (hx : x.Starts s) (hjobs : (s.lane i).jobs = x.job.toList ++ jobs)
    (hspace : hasSpace (reservationFor x.work x.op) s = true) :
    Accounts (startTransaction i x (s.setLane i { s.lane i with jobs := jobs })) 0 0 := by
  obtain ⟨hnone, hfree⟩ := (h.lanes i).resting hrest
  have hwrites := (h.lanes i).jobs
  rw [hjobs] at hwrites
  have hheld := Lane.blocks_resting hnone
  rw [hjobs, hfree, jobBlocks_append] at hheld
  rw [startTransaction_setLane]
  have hslots : Accounts s 0 (reservationFor x.work x.op).slots := by
    refine h.takeSlots ?_
    cases hr : reservationFor x.work x.op with rw [hr] at hspace
    | none => exact Nat.zero_le _
    | slot => exact (slotFree_iff_freeSlots s).1 hspace
    | slotAndBlock => exact (slotFree_iff_freeSlots s).1 (Bool.and_eq_true_iff.1 hspace).1
  have hclaimed := hslots.claim (reservationFor x.work x.op = .slotAndBlock) fun hr => by
    rw [hr] at hspace
    exact of_decide_eq_true (Bool.and_eq_true_iff.1 hspace).2
  refine hclaimed.setLane
    (Lane.sound_of_serving rfl rfl (hx.sound fun j hj => hwrites j ?_) rfl fun j hj => hwrites j ?_) ?_ ?_
  · exact List.mem_append_left _ hj
  · exact List.mem_append_right _ hj
  · rw [claim_lane, Lane.blocks_serving (x := x) rfl, hheld]
    change _ + _ + (reservationFor x.work x.op).blocks + 0 = _ + 0 + (0 + (reservationFor x.work x.op).blocks)
    dsimp only [Lane.begin]
    omega
  · rw [claim_lane, hfree]
    exact (Nat.zero_add _).symm

/-- A job joins a queue with a block for its data (R68). -/
theorem Accounts.enqueue (h : Accounts s 0 0) (i : Fin 4) {j : Job}
    (hdata : j.data.isSome = true → j.kind = .write ∧ 0 < s.pool.free) :
    Accounts (enqueued i j (if j.data.isSome then claimBlock s else s)) 0 0 := by
  refine (h.claim (j.data.isSome = true) fun hd => (hdata hd).2).setJobs ?_ ?_
  · rw [claim_lane]
    intro k hk hd
    rcases List.mem_append.1 hk with hk | hk
    · exact (h.lanes i).jobs k hk hd
    · obtain rfl := List.mem_singleton.1 hk
      exact (hdata hd).1
  · rw [jobBlocks_append, Nat.zero_add]
    rfl

theorem Accounts.endQueuedJob {j : Job} (h : Accounts s (blocks + j.blocks) (slots + 1)) {status : RecordStatus}
    (hstatus : status ≠ .ok) : Accounts (endQueuedJob j status s) blocks slots := by
  refine .releaseIf (.addRecord ?_)
  have hnone : (jobRecord s.cycle j (Final.plain status)).blocks = 0 := by
    rw [jobRecord, Record.blocks, Final.recordData, Final.plain, if_neg hstatus, ite_self]
    rfl
  rw [hnone]
  exact h

theorem Accounts.endQueuedJobs {gone : List Job} {status : RecordStatus} (hstatus : status ≠ .ok)
    (h : Accounts s (jobBlocks gone) gone.length) :
    Accounts (gone.foldl (fun u j => Machine.endQueuedJob j status u) s) 0 0 := by
  induction gone generalizing s with
  | nil => exact h
  | cons j rest ih =>
    refine ih (Accounts.endQueuedJob ?_ hstatus)
    rw [Nat.add_comm]
    exact h

/-- Jobs leave a queue (R71, R73, R75, R77). -/
theorem Accounts.removeJobs (h : Accounts s 0 0) {i : Fin 4} {gone jobs : List Job} {status : RecordStatus}
    (hjobs : (s.lane i).jobs.Perm (gone ++ jobs)) (hslots : gone.length ≤ s.freeSlots) (hstatus : status ≠ .ok) :
    Accounts (gone.foldl (fun u j => Machine.endQueuedJob j status u) (s.setLane i { s.lane i with jobs := jobs }))
      0 0 := by
  have hblocks := jobBlocks_perm hjobs
  rw [jobBlocks_append] at hblocks
  refine .endQueuedJobs hstatus ((h.takeSlots hslots).setJobs (fun j hj => (h.lanes i).jobs j ?_) (by omega))
  exact hjobs.mem_iff.2 (List.mem_append_right _ hj)

/-- The head record gives up its slot and its block (R120). -/
theorem Accounts.takeRecord (h : Accounts s 0 0) {r : Record} {rest : List Record} (hrecords : s.records = r :: rest) :
    Accounts (takeRecord r rest s) 0 0 := by
  refine .releaseIf (Accounts.of_kept ?_ (keepsStock_wakeAll _))
  refine h.of_lanes (fun _ => .refl _) ?_ id ?_
  · rw [hrecords]
    simp only [recordBlocks, List.map_cons, List.sum_cons]
    change _ + _ + (0 + r.blocks) = _
    omega
  · rw [hrecords]
    exact Nat.le_succ _

/-- The definition of an entry ends (R25). -/
theorem Accounts.redefine (h : Accounts s 0 0) (p : Fin 48) (x : Poll) :
    Accounts (unlistPoll p (markDefinitionEnd p (s.setPoll p x))) 0 0 := by
  rw [unlistPoll_markDefinitionEnd]
  refine h.of_lanes (fun i => ?_) rfl id le_rfl
  exact definitionEnded_lane s (s.setPoll p x) (s.setPoll p x) p i ▸ definitionEnded_keepsHoldings ..

/-- After a reset 64 blocks are free and nothing is held (R106, R152). -/
theorem accounts_of_reset (hlanes : u.lanes = State.reset.lanes) (hrecords : u.records = State.reset.records)
    (hpool : u.pool = State.reset.pool) : Accounts u 0 0 where
  lanes i := by
    have hlane : u.lane i = Lane.afterReset := by
      rw [State.lane, hlanes]
      exact Table.get_replicate ..
    rw [hlane]
    exact Lane.sound_of_resting nofun rfl rfl nofun
  pool := by
    rw [State.laneBlocks, hlanes, hrecords, hpool]
    rfl
  lowWater := by
    rw [hpool]
    exact le_rfl
  slots := by
    rw [State.reservations, hlanes, hrecords]
    exact Nat.zero_le _

end

/-! ### The step lemma -/

/-- Every move keeps the accounts. -/
theorem Accounts.move {s u : State} (h : Accounts s 0 0) (hm : StockMove s u) : Accounts u 0 0 := by
  cases hm with
  | keeps hk => exact h.of_kept hk
  | starts hrest hx hjobs hspace => exact h.start hrest hx hjobs hspace
  | @retries i x t htxn =>
    have hkept : (s.lane i).KeepsHoldings ((s.lane i).retry x t) :=
      Lane.keepsHoldings_withTxn htxn rfl rfl rfl rfl rfl rfl
    exact h.setLane (hkept.sound (h.lanes i)) (by rw [hkept.blocks]) (by rw [hkept.reservation])
  | ends f htxn => exact h.endTransaction htxn f
  | enqueues i hdata => exact h.enqueue i hdata
  | removes hjobs hslots hstatus => exact h.removeJobs hjobs hslots hstatus
  | @adds r hdata hslot =>
    have hnone : r.blocks = 0 := by rw [Record.blocks, hdata]; rfl
    refine .addRecord ?_
    rw [hnone]
    exact h.takeSlots ((slotFree_iff_freeSlots s).1 hslot)
  | takes hrecords => exact h.takeRecord hrecords
  | redefines p _ => exact h.redefine p _
  | resets hlanes _ hrecords hpool => exact accounts_of_reset hlanes hrecords hpool

/-- Settles O53: every happening is a chain of moves, and every move keeps the accounts. -/
theorem stepKeepsSpaceAccounts : Obligations.StepKeepsSpaceAccounts := by
  intro s t h hstep
  exact spaceInv_iff.2 (step_keeps_of_moves (P := fun u => Accounts u 0 0) (fun _ _ => Accounts.move)
    (spaceInv_iff.1 h) hstep)

end Sys2Proof.Machine

/-! PROOF. The Waiting Record links (R117): what each operation makes of the record that a link names and of the
definition that a running transaction serves, and the step lemma. -/

namespace Sys2Proof.Machine

/-! ### The definition that a record or a transaction is of -/

/-- Poll entry and Generation of the definition that a POLL record reports (R111). -/
def Record.definition (r : Record) : Option (Fin 48 × Byte) :=
  match r.source with
  | .poll p g _ => some (p, g)
  | .alert .. | .job .. => none

/-- Poll entry and Generation of the definition that a transaction will report, none once it is discarded (R25). -/
def Transaction.definition (x : Transaction) : Option (Fin 48 × Byte) :=
  match x.work with
  | .poll p => if x.discarded then none else some (p, x.generation)
  | .alert _ | .job _ | .probe => none

/-- The definition that the running transaction of a lane will report. -/
def Lane.served (l : Lane) : Option (Fin 48 × Byte) := l.txn.bind Transaction.definition

/-- The definition that the record at place `k` reports. -/
def State.reported (s : State) (k : Nat) : Option (Fin 48 × Byte) := s.records[k]?.bind Record.definition

theorem Transaction.definition_eq_some {x : Transaction} {p : Fin 48} {g : Byte} :
    x.definition = some (p, g) ↔ x.work = .poll p ∧ x.discarded = false ∧ x.generation = g := by
  unfold Transaction.definition
  cases x.work with
  | poll q => cases x.discarded <;> simp
  | alert _ | job _ | probe => simp

theorem Record.definition_supersede {r r' : Record} (h : r'.source = r.source.supersede) :
    r'.definition = r.definition := by
  rw [Record.definition, Record.definition, h]
  cases r.source <;> rfl

/-- A link names a record of the definition in force, and so does the report of a running transaction to come (R117,
R25). -/
structure LinksHold (s : State) : Prop where
  links : ∀ p k, (s.poll p).link = some k →
    (s.poll p).defn.keepLatest = true ∧ s.reported k = some (p, (s.poll p).generation)
  served : ∀ i p g, (s.lane i).served = some (p, g) → g = (s.poll p).generation

theorem linkInv_iff {s : State} : LinkInv s ↔ LinksHold s := by
  refine ⟨fun ⟨hlinks, hserved⟩ => ⟨fun p k hk => ?_, fun i p g hg => ?_⟩,
    fun ⟨hlinks, hserved⟩ => ⟨fun p => ?_, fun i => ?_⟩⟩
  · have h := hlinks p
    rw [hk] at h
    obtain ⟨hkeep, hrecord⟩ := h
    refine ⟨hkeep, ?_⟩
    split at hrecord
    · rename_i hr
      obtain ⟨rfl, rfl⟩ := hrecord
      rw [State.reported, hr]
      rfl
    · exact hrecord.elim
    · exact hrecord.elim
  · have h := hserved i
    obtain ⟨x, hx, hdef⟩ := Option.bind_eq_some_iff.1 hg
    obtain ⟨hwork, hkept, rfl⟩ := Transaction.definition_eq_some.1 hdef
    rw [hx] at h
    dsimp only at h
    rw [hwork] at h
    exact h hkept
  · cases hk : (s.poll p).link with
    | none => trivial
    | some k =>
      obtain ⟨hkeep, hrecord⟩ := hlinks p k hk
      refine ⟨hkeep, ?_⟩
      obtain ⟨⟨source, _, _, _, _⟩, hr, hdef⟩ := Option.bind_eq_some_iff.1 hrecord
      rw [hr]
      cases source with
      | poll q g n =>
        obtain ⟨rfl, rfl⟩ := Prod.mk.inj (Option.some.inj hdef)
        exact ⟨rfl, rfl⟩
      | alert _ _ _ | job _ _ _ => cases hdef
  · cases hx : (s.lane i).txn with
    | none => trivial
    | some x =>
      dsimp only
      split
      · rename_i p hwork
        intro hkept
        refine hserved i p _ ?_
        rw [Lane.served, hx]
        exact Transaction.definition_eq_some.2 ⟨hwork, hkept, rfl⟩
      · trivial
      · trivial
      · trivial

/-! ### Operations that leave every link on its record -/

/-- From `s` to `u` the links stay, the records keep their places and what they report, and no lane serves a
definition that it did not serve. -/
structure KeepsLinks (s u : State) : Prop where
  polls : ∀ p, (s.poll p).KeepsLink (u.poll p)
  records : ∀ k d, s.reported k = some d → u.reported k = some d
  served : ∀ i d, (u.lane i).served = some d → (s.lane i).served = some d

theorem KeepsLinks.refl (s : State) : KeepsLinks s s := ⟨fun _ => .refl _, fun _ _ => id, fun _ _ => id⟩

theorem KeepsLinks.trans {s t u : State} (hst : KeepsLinks s t) (htu : KeepsLinks t u) : KeepsLinks s u where
  polls p := (hst.polls p).trans (htu.polls p)
  records k d := htu.records k d ∘ hst.records k d
  served i d := hst.served i d ∘ htu.served i d

section
variable {s u : State}

theorem KeepsStock.keepsLinks (h : KeepsStock s u) : KeepsLinks s u where
  polls := h.polls
  records k d := by rw [State.reported, State.reported, h.records]; exact id
  served i d := by rw [Lane.served, Lane.served, (h.lanes i).txn]; exact id

theorem LinksHold.of_kept (h : LinksHold s) (hk : KeepsLinks s u) : LinksHold u where
  links p k hlink := by
    obtain ⟨hsame, hgen, hkeep⟩ := hk.polls p
    obtain ⟨hlatest, hrecord⟩ := h.links p k (hsame ▸ hlink)
    exact ⟨hkeep.trans hlatest, hgen ▸ hk.records k _ hrecord⟩
  served i p g hserved := (h.served i p g (hk.served i _ hserved)).trans (hk.polls p).generation.symm

theorem LinksHold.of_stock (h : LinksHold s) (hk : KeepsStock s u) : LinksHold u := h.of_kept hk.keepsLinks

/-- The Buffer Pool holds no link. -/
theorem keepsLinks_releaseIf (held : Bool) (s : State) : KeepsLinks s (releaseIf held s) where
  polls p := by rw [releaseIf_frame]; exact .refl _
  records k d := by rw [releaseIf_frame]; exact id
  served i d := by
    rw [Lane.served, Lane.served, ((releaseIf_sameButTiers held s i).keepsStock).txn]
    exact id

theorem keepsLinks_claimIf (c : Prop) [Decidable c] (s : State) : KeepsLinks s (if c then claimBlock s else s) := by
  split
  · exact { KeepsLinks.refl s with }
  · exact .refl s

theorem keepsLinks_releaseReservation (r : Reservation) (s : State) : KeepsLinks s (releaseReservation r s) := by
  cases r with
  | none => exact .refl s
  | slot => exact (keepsStock_wakeAll s).keepsLinks
  | slotAndBlock => exact keepsLinks_releaseIf true s

/-- A record at the tail moves no other. -/
theorem keepsLinks_addRecord (r : Record) (s : State) : KeepsLinks s (addRecord r s) where
  polls _ := .refl _
  records k d hd := by
    obtain ⟨r', hr', hdef⟩ := Option.bind_eq_some_iff.1 hd
    refine Option.bind_eq_some_iff.2 ⟨r', ?_, hdef⟩
    exact (List.getElem?_append_left (List.getElem?_eq_some_iff.1 hr').1).trans hr'
  served _ _ := id

theorem reported_addRecord (r : Record) (s : State) : (addRecord r s).reported s.records.length = r.definition := by
  rw [State.reported, addRecord, List.getElem?_concat_length]
  rfl

theorem keepsLinks_setLane {i : Fin 4} {l : Lane} (h : ∀ d, l.served = some d → (s.lane i).served = some d) :
    KeepsLinks s (s.setLane i l) where
  polls _ := .refl _
  records _ _ := id
  served k d hd := by
    rw [State.setLane_lane] at hd
    split at hd
    · rename_i hk
      exact hk ▸ h d hd
    · exact hd

theorem keepsLinks_endQueuedJob (j : Job) (status : RecordStatus) (s : State) :
    KeepsLinks s (endQueuedJob j status s) :=
  (keepsLinks_addRecord ..).trans (keepsLinks_releaseIf ..)

theorem keepsLinks_endQueuedJobs (gone : List Job) (status : RecordStatus) (s : State) :
    KeepsLinks s (gone.foldl (fun u j => endQueuedJob j status u) s) :=
  foldl_keeps (P := KeepsLinks s) (fun u j h => h.trans (keepsLinks_endQueuedJob j status u)) gone s (.refl s)

theorem keepsLinks_endRunningJob (j : Job) (f : Final) (s : State) : KeepsLinks s (endRunningJob j f s) :=
  ((keepsLinks_addRecord ..).trans (keepsLinks_releaseIf ..)).trans (keepsLinks_releaseIf ..)

theorem keepsLinks_endAlertRead (a : Fin 8) (x : Transaction) (f : Final) (s : State) :
    KeepsLinks s (endAlertRead a x f s) :=
  ((keepsLinks_addRecord ..).trans ((keepsStock_alertSnapshot ..).trans (keepsStock_moveLine ..)).keepsLinks).trans
    (keepsLinks_releaseIf ..)

/-- The merged record keeps its place and its definition (R118). -/
theorem keepsLinks_mergePollRecord {k : Nat} {r : Record} (hr : s.records[k]? = some r) (p : Fin 48) (f : Final) :
    KeepsLinks s (mergePollRecord p k r f s) := by
  refine .trans (.trans (.trans ?_ (keepsStock_wakeAll _).keepsLinks) (keepsLinks_releaseIf ..))
    (keepsLinks_releaseIf ..)
  have hpoll := keepsStock_setPoll (s := s) (p := p) (x := { s.poll p with
    counts := { (s.poll p).counts with superseded := count16 (s.poll p).counts.superseded } }) ⟨rfl, rfl, rfl⟩
  refine { hpoll.keepsLinks with records := fun n d hd => ?_ }
  obtain ⟨old, hold, hdef⟩ := Option.bind_eq_some_iff.1 hd
  change (s.records.set k _)[n]?.bind Record.definition = some d
  rw [List.getElem?_set]
  split
  · rename_i hn
    subst hn
    obtain rfl := Option.some.inj (hr.symm.trans hold)
    rw [if_pos (List.getElem?_eq_some_iff.1 hr).1]
    exact (Record.definition_supersede rfl).trans hdef
  · exact hd

/-! ### Operations that set a link or serve a definition -/

/-- A transaction of the definition in force starts (R25). -/
theorem LinksHold.setLane (h : LinksHold s) {i : Fin 4} {l : Lane}
    (hl : ∀ p g, l.served = some (p, g) → g = (s.poll p).generation) : LinksHold (s.setLane i l) where
  links := h.links
  served k p g hserved := by
    rw [State.setLane_lane] at hserved
    split at hserved
    · exact hl p g hserved
    · exact h.served k p g hserved

/-- An entry is set that serves the running transactions of it and whose link names a record of it. -/
theorem LinksHold.setPoll (h : LinksHold s) {p : Fin 48} {e : Poll}
    (hlink : ∀ k, e.link = some k → e.defn.keepLatest = true ∧ s.reported k = some (p, e.generation))
    (hserved : ∀ i g, (s.lane i).served = some (p, g) → g = e.generation) : LinksHold (s.setPoll p e) where
  links q k hk := by
    rw [State.setPoll_poll] at hk ⊢
    split at hk
    · rename_i hq
      subst hq
      rw [if_pos rfl]
      exact hlink k hk
    · rename_i hq
      rw [if_neg hq]
      exact h.links q k hk
  served i q g hg := by
    rw [State.setPoll_poll]
    split
    · rename_i hq
      subst hq
      exact hserved i g hg
    · exact h.served i q g hg

/-- The link of a keep-latest entry names its new record (R117). -/
theorem LinksHold.newPollRecord (h : LinksHold s) {p : Fin 48} {x : Transaction}
    (hx : x.generation = (s.poll p).generation) (f : Final) : LinksHold (newPollRecord p x f s) := by
  have hadded (r : Record) : LinksHold (addRecord r s) := h.of_kept (keepsLinks_addRecord r s)
  refine LinksHold.of_kept ?_ (keepsLinks_releaseIf ..)
  refine LinksHold.setPoll (hadded _) (fun k hk => ?_) fun i => h.served i p
  dsimp only at hk ⊢
  split at hk
  · rename_i hkeep
    obtain rfl := Option.some.inj hk
    refine ⟨hkeep, (reported_addRecord ..).trans ?_⟩
    rw [← hx]
    rfl
  · rename_i hkeep
    exact absurd (h.links p k hk).1 hkeep

/-- A poll completion of the definition in force (R113, R117). -/
theorem LinksHold.pollCompletion (h : LinksHold s) {p : Fin 48} {x : Transaction}
    (hx : x.generation = (s.poll p).generation) (f : Final) : LinksHold (pollCompletion p x f s) := by
  cases hreports : (s.poll p).reports f with
  | false =>
    rw [pollCompletion_dropped p x f s hreports]
    refine LinksHold.of_kept ?_ (keepsLinks_releaseIf true _)
    exact h.of_stock (keepsStock_setPoll ⟨rfl, rfl, rfl⟩)
  | true =>
    have hwritten : LinksHold (snapshotWritten p f s) := h.of_stock (keepsStock_setPoll ⟨rfl, rfl, rfl⟩)
    cases hlinked : linkedRecord (snapshotWritten p f s) p with
    | none =>
      rw [pollCompletion_new x f hreports hlinked]
      exact hwritten.newPollRecord (by rw [snapshotWritten_poll]; exact hx) f
    | some linked =>
      rw [pollCompletion_merged x f hreports hlinked]
      exact hwritten.of_kept (keepsLinks_mergePollRecord (getElem?_of_linkedRecord hlinked) p f)

/-- The report of a transaction that is discarded or of the definition in force (R55 step 2). -/
theorem LinksHold.reportOutcome (h : LinksHold s) {x : Transaction}
    (hx : ∀ p g, x.definition = some (p, g) → g = (s.poll p).generation) (held : Reservation) (f : Final) :
    LinksHold (reportOutcome x held f s) := by
  rw [Machine.reportOutcome]
  cases hwork : x.work with
  | poll p =>
    dsimp only
    split
    · exact h.of_kept (keepsLinks_releaseReservation ..)
    · rename_i hreports
      have hkept : x.discarded = false := Bool.eq_false_iff.2 fun hd => hreports (.inl hd)
      exact h.pollCompletion (hx p _ (Transaction.definition_eq_some.2 ⟨hwork, hkept, rfl⟩)) f
  | alert a => exact h.of_kept (keepsLinks_endAlertRead ..)
  | job j => exact h.of_kept (keepsLinks_endRunningJob ..)
  | probe => exact h

/-- The end of a transaction (R55). -/
theorem LinksHold.endTransaction (h : LinksHold s) {i : Fin 4} {x : Transaction} (htxn : (s.lane i).txn = some x)
    (f : Final) : LinksHold (endTransaction i f s) := by
  have hfreed : KeepsLinks s (s.setLane i ((s.lane i).endTxn f.status)) := keepsLinks_setLane fun d hd => by
    rw [Lane.served, Lane.endTxn_eq] at hd
    cases hd
  have hbefore : KeepsLinks s (beforeReport i x f s) := hfreed.trans (keepsStock_targetOutcome ..).keepsLinks
  rw [endTransaction_eq htxn]
  refine ((h.of_kept hbefore).reportOutcome (fun p g hg => ?_) _ f).of_stock (keepsStock_wakeLane ..)
  rw [(hbefore.polls p).generation]
  refine h.served i p g ?_
  rw [Lane.served, htxn]
  exact hg

/-- A transaction starts, a scheduled one of the definition in force (R46, R47). -/
theorem LinksHold.start (h : LinksHold s) {i : Fin 4} {x : Transaction} (hx : x.Starts s) (l : Lane) :
    LinksHold (startTransaction i x (s.setLane i l)) := by
  rw [startTransaction, State.setLane_lane_self, State.setLane_setLane]
  refine (h.setLane fun p g hg => ?_).of_kept (keepsLinks_claimIf ..)
  have hdef : x.definition = some (p, g) := hg
  obtain ⟨hwork, _, rfl⟩ := Transaction.definition_eq_some.1 hdef
  rw [Transaction.Starts, hwork] at hx
  exact hx.2

/-- The places count down with the head record, whose own link is absent from then on (R117, R120). -/
theorem LinksHold.takeRecord (h : LinksHold s) {r : Record} {rest : List Record} (hrecords : s.records = r :: rest) :
    LinksHold (takeRecord r rest s) := by
  refine LinksHold.of_kept (LinksHold.of_stock ?_ (keepsStock_wakeAll _)) (keepsLinks_releaseIf ..)
  have hpoll (p : Fin 48) : (s.polls.map Poll.headTaken).get p = (s.poll p).headTaken := Table.get_map ..
  refine ⟨fun p k hk => ?_, fun i p g hg => ?_⟩
  · change ((s.polls.map Poll.headTaken).get p).link = some k at hk
    change ((s.polls.map Poll.headTaken).get p).defn.keepLatest = true ∧
      rest[k]?.bind Record.definition = some (p, ((s.polls.map Poll.headTaken).get p).generation)
    rw [hpoll] at hk ⊢
    have hlink : (s.poll p).link = some (k + 1) := by
      unfold Poll.headTaken at hk
      dsimp only at hk
      split at hk
      · rename_i hn
        rw [hn, Option.some.inj hk]
      · cases hk
    obtain ⟨hkeep, hrecord⟩ := h.links p (k + 1) hlink
    rw [State.reported, hrecords] at hrecord
    exact ⟨hkeep, hrecord⟩
  · change g = ((s.polls.map Poll.headTaken).get p).generation
    rw [hpoll]
    exact h.served i p g hg

/-- A lane serves the definition of entry `p` no longer, the others as before (R25). -/
theorem served_definitionEnded {p q : Fin 48} {g : Byte} {l : Lane}
    (h : (definitionEnded s p l).served = some (q, g)) : q ≠ p ∧ l.served = some (q, g) := by
  rw [Lane.served, definitionEnded, (unlisted_keepsStock ..).txn] at h
  obtain ⟨y, hy, hdef⟩ := Option.bind_eq_some_iff.1 h
  obtain ⟨x, hx, rfl⟩ := Option.map_eq_some_iff.1 hy
  obtain ⟨hwork, hkept, hgen⟩ := Transaction.definition_eq_some.1 hdef
  rw [definitionEndMark_work] at hwork
  rw [definitionEndMark, hwork] at hkept hgen
  dsimp only at hkept hgen
  split at hkept
  · cases hkept
  · rename_i hq
    rw [if_neg hq] at hgen
    refine ⟨hq, ?_⟩
    rw [Lane.served, hx]
    exact Transaction.definition_eq_some.2 ⟨hwork, hkept, hgen⟩

/-- The definition of an entry ends: no link names a record of it and no lane serves it (R25, R117). -/
theorem LinksHold.redefine (h : LinksHold s) (p : Fin 48) {e : Poll} (hlink : e.link = none) :
    LinksHold (unlistPoll p (markDefinitionEnd p (s.setPoll p e))) := by
  rw [unlistPoll_markDefinitionEnd]
  have hended : LinksHold { s with lanes := s.lanes.map (definitionEnded (s.setPoll p e) p) } :=
    h.of_kept { KeepsLinks.refl s with
      served := fun i d hd => (served_definitionEnded (definitionEnded_lane s s (s.setPoll p e) p i ▸ hd)).2 }
  exact hended.setPoll (fun k hk => by rw [hlink] at hk; cases hk)
    fun i g hg => absurd rfl (served_definitionEnded (definitionEnded_lane s s (s.setPoll p e) p i ▸ hg)).1

/-- After a reset no link is present and no transaction runs (R152). -/
theorem linksHold_of_reset (hlanes : u.lanes = State.reset.lanes) (hpolls : u.polls = State.reset.polls) :
    LinksHold u where
  links p k hk := by
    have hnone : (u.poll p).link = none := by
      rw [State.poll, hpolls]
      exact congrArg Poll.link (Table.get_replicate ..)
    rw [hnone] at hk
    cases hk
  served i p g hg := by
    have hnone : (u.lane i).served = none := by
      rw [State.lane, hlanes]
      exact congrArg Lane.served (Table.get_replicate ..)
    rw [hnone] at hg
    cases hg

end

/-! ### The step lemma -/

/-- Every move keeps the links. -/
theorem LinksHold.move {s u : State} (h : LinksHold s) (hm : StockMove s u) : LinksHold u := by
  cases hm with
  | keeps hk => exact h.of_stock hk
  | starts _ hx _ _ => exact h.start hx _
  | @retries i x t htxn =>
    refine h.of_kept (keepsLinks_setLane fun d hd => ?_)
    rw [Lane.served, htxn]
    exact hd
  | ends f htxn => exact h.endTransaction htxn f
  | enqueues i _ => exact h.of_kept ((keepsLinks_claimIf ..).trans (keepsLinks_setLane fun _ => id))
  | removes =>
    refine LinksHold.of_kept ?_ (keepsLinks_endQueuedJobs ..)
    exact h.of_kept (keepsLinks_setLane fun _ => id)
  | adds => exact h.of_kept (keepsLinks_addRecord ..)
  | takes hrecords => exact h.takeRecord hrecords
  | redefines p hlink => exact h.redefine p hlink
  | resets hlanes hpolls _ _ => exact linksHold_of_reset hlanes hpolls

/-- Settles O58: every happening is a chain of moves, and every move keeps the links. -/
theorem stepKeepsRecordLinks : Obligations.StepKeepsRecordLinks := by
  intro s t h hstep
  exact linkInv_iff.2 (step_keeps_of_moves (P := LinksHold) (fun _ _ => LinksHold.move) (linkInv_iff.1 h) hstep)

end Sys2Proof.Machine

/-! PROOF. A posting at the Notice Queue (R125): what it makes of the notice of its key and of the others, and the
statement about its three ways. -/

namespace Sys2Proof.Machine

section
variable {b : NoticeBody} {n : Notice} {s : State}

theorem mergeNotice_of_key_eq (h : n.body.key = b.key) : mergeNotice b n = ⟨n.body.merge b, count8 n.occurrences⟩ :=
  if_pos h

theorem mergeNotice_of_key_ne (h : n.body.key ≠ b.key) : mergeNotice b n = n := if_neg h

theorem map_mergeNotice_of_key_ne {ns : List Notice} (h : ∀ m ∈ ns, m.body.key ≠ b.key) :
    ns.map (mergeNotice b) = ns :=
  (List.map_congr_left fun m hm => mergeNotice_of_key_ne (h m hm)).trans ns.map_id

/-- The only notice of the posting's key takes it in its place (R125). -/
theorem post_into_waiting {before after : List Notice} (hs : s.notices = before ++ n :: after)
    (hn : n.body.key = b.key) (hothers : ∀ m ∈ before ++ after, m.body.key ≠ b.key) :
    post b s = { s with notices := before ++ ⟨n.body.merge b, count8 n.occurrences⟩ :: after } := by
  obtain ⟨hbefore, hafter⟩ := List.forall_mem_append.1 hothers
  rw [post_merged (by simp [hs, hn]), hs, List.map_append, List.map_cons, mergeNotice_of_key_eq hn,
    map_mergeNotice_of_key_ne hbefore, map_mergeNotice_of_key_ne hafter]

/-- A posting of a key that waits nowhere takes a free place, or is lost (R125). -/
theorem post_of_key_absent (h : ∀ m ∈ s.notices, m.body.key ≠ b.key) :
    post b s = if s.notices.length < 16 then { s with notices := s.notices ++ [⟨b, 1⟩] }
      else { s with lostNotices := count8 s.lostNotices } := by
  have habsent : s.notices.any (fun n => n.body.key = b.key) = false := by simpa using h
  split
  · next hroom => exact post_new habsent hroom
  · next hfull => exact post_lost habsent (Nat.le_of_not_lt hfull)

end

/-- Settles O50: a waiting notice of the key is the only one that changes, states replaced and counts added; with none
waiting the number of notices decides. -/
theorem postingMergesJoinsOrDrops : Obligations.PostingMergesJoinsOrDrops := by
  refine fun s b => ⟨fun before n after hs hn hothers => ?_, post_of_key_absent⟩
  rw [post_into_waiting hs hn hothers]
  rfl

end Sys2Proof.Machine

/-! PROOF. What a happening may change of the tags in flight and of the replies owed for them (R133, R135, R146): the
operations that touch neither. -/

namespace Sys2Proof.Machine

/-! ### Operations that touch no tag and no reply -/

/-- From `s` to `u` no tag is admitted or leaves, no reply becomes ready, and the replies that wait go on waiting: the
deferred STOP with the operating state it belongs to (R155), and the LANE_RESETs of each lane (R61). -/
structure KeepsTags (s u : State) : Prop where
  inFlight : u.inFlight = s.inFlight
  ready : u.ready = s.ready
  stopTag : u.stopTag = s.stopTag
  op : u.op = s.op
  waiting : ∀ i, (u.lane i).waitingResets = (s.lane i).waitingResets

theorem KeepsTags.refl (s : State) : KeepsTags s s := ⟨rfl, rfl, rfl, rfl, fun _ => rfl⟩

theorem KeepsTags.trans {s t u : State} (hst : KeepsTags s t) (htu : KeepsTags t u) : KeepsTags s u where
  inFlight := htu.inFlight.trans hst.inFlight
  ready := htu.ready.trans hst.ready
  stopTag := htu.stopTag.trans hst.stopTag
  op := htu.op.trans hst.op
  waiting i := (htu.waiting i).trans (hst.waiting i)

theorem KeepsTags.foldl {α : Type} {f : State → α → State} (hf : ∀ s a, KeepsTags s (f s a)) (as : List α)
    (s : State) : KeepsTags s (as.foldl f s) :=
  foldl_keeps (P := KeepsTags s) (fun u a h => h.trans (hf u a)) as s (.refl s)

section
variable {s u : State}

/-- The lanes stay as they are. -/
theorem KeepsTags.of_lanes (hi : u.inFlight = s.inFlight) (hr : u.ready = s.ready) (hs : u.stopTag = s.stopTag)
    (ho : u.op = s.op) (hl : u.lanes = s.lanes) : KeepsTags s u :=
  ⟨hi, hr, hs, ho, fun i => by rw [State.lane, State.lane, hl]⟩

theorem Lane.SameButTiers.waitingResets_eq {a b : Lane} : a.SameButTiers b → b.waitingResets = a.waitingResets := by
  rintro ⟨_, _, _, rfl⟩
  rfl

/-- The lanes change in their tiers only. -/
theorem KeepsTags.of_sameButTiers (hi : u.inFlight = s.inFlight) (hr : u.ready = s.ready)
    (hs : u.stopTag = s.stopTag) (ho : u.op = s.op) (hl : ∀ i, (s.lane i).SameButTiers (u.lane i)) : KeepsTags s u :=
  ⟨hi, hr, hs, ho, fun i => (hl i).waitingResets_eq⟩

theorem keepsTags_setLane {i : Fin 4} {x : Lane} (h : x.waitingResets = (s.lane i).waitingResets) :
    KeepsTags s (s.setLane i x) := by
  refine ⟨rfl, rfl, rfl, rfl, fun k => ?_⟩
  rw [State.setLane_lane]
  split
  · rename_i hk
    exact hk ▸ h
  · rfl

/-- Every lane changes in what is no waiting LANE_RESET. -/
theorem KeepsTags.of_mapLanes {f : Lane → Lane} (hf : ∀ l : Lane, (f l).waitingResets = l.waitingResets)
    (hi : u.inFlight = s.inFlight) (hr : u.ready = s.ready) (hs : u.stopTag = s.stopTag) (ho : u.op = s.op)
    (hl : u.lanes = s.lanes.map f) : KeepsTags s u :=
  ⟨hi, hr, hs, ho, fun i => by rw [State.lane, hl, Table.get_map]; exact hf _⟩

end

/-! ### Lanes, blocks, notices and choices -/

section
variable (s : State)

theorem keepsTags_wakeLane (i : Fin 4) : KeepsTags s (wakeLane i s) := by
  refine .of_sameButTiers ?_ ?_ ?_ ?_ fun k => wakeLane_sameButTiers i k s <;> rw [wakeLane_frame]

theorem keepsTags_wakeAll : KeepsTags s (wakeAll s) := by
  refine .of_sameButTiers ?_ ?_ ?_ ?_ (wakeAll_sameButTiers s) <;> rw [wakeAll_frame]

theorem keepsTags_claimBlock : KeepsTags s (claimBlock s) := .of_lanes rfl rfl rfl rfl rfl

theorem keepsTags_releaseIf (b : Bool) : KeepsTags s (releaseIf b s) := by
  refine .of_sameButTiers ?_ ?_ ?_ ?_ (releaseIf_sameButTiers b s) <;> rw [releaseIf_frame]

theorem keepsTags_addRecord (r : Record) : KeepsTags s (addRecord r s) := .of_lanes rfl rfl rfl rfl rfl

theorem keepsTags_post (b : NoticeBody) : KeepsTags s (post b s) := by
  rw [post_frame]
  exact .of_lanes rfl rfl rfl rfl rfl

theorem keepsTags_hostError (count : HostErrors → HostErrors) (one : HostErrors) :
    KeepsTags s (hostError count one s) := by
  rw [hostError_frame]
  exact .of_lanes rfl rfl rfl rfl rfl

theorem keepsTags_setReceiver (r : Receiver) : KeepsTags s { s with receiver := r } := .of_lanes rfl rfl rfl rfl rfl

theorem keepsTags_withChoice {f : List Nat → State → State} (hf : ∀ picks u, KeepsTags u (f picks u)) :
    KeepsTags s (withChoice f s) := by
  refine .trans ?_ (hf ..)
  rw [afterChoice_frame]
  exact .of_lanes rfl rfl rfl rfl rfl

theorem keepsTags_takeRecord (r : Record) (rest : List Record) : KeepsTags s (takeRecord r rest s) := by
  refine .trans ?_ (keepsTags_releaseIf ..)
  refine .trans ?_ (keepsTags_wakeAll _)
  exact .of_lanes rfl rfl rfl rfl rfl

/-! ### Targets and cycle starts -/

theorem keepsTags_changeTarget (t : Fin 32) (x : Target) : KeepsTags s (changeTarget t x s) := by
  rw [changeTarget_frame]
  exact .of_lanes rfl rfl rfl rfl rfl

theorem keepsTags_targetOutcome (t : Fin 32) (isProbe : Bool) (status : RecordStatus) :
    KeepsTags s (targetOutcome t isProbe status s) := by
  refine ⟨?_, ?_, ?_, ?_, fun k => ?_⟩
  case refine_5 => rw [targetOutcome_gains]; rfl
  all_goals rw [targetOutcome_frame]

theorem keepsTags_removeProbe (t : Fin 32) : KeepsTags s (removeProbe t s) := by
  unfold removeProbe
  dsimp only
  split
  · refine .trans ?_ (keepsTags_wakeLane ..)
    exact keepsTags_setLane rfl
  · exact .refl s

theorem keepsTags_reviveTarget (t : Fin 32) : KeepsTags s (reviveTarget t s) := by
  unfold reviveTarget
  dsimp only
  split
  · exact .refl s
  · exact .refl s
  · exact keepsTags_changeTarget ..
  · refine .trans ?_ (keepsTags_wakeLane ..)
    exact (keepsTags_removeProbe s t).trans (keepsTags_changeTarget ..)

theorem keepsTags_quarantineTarget (t : Fin 32) : KeepsTags s (quarantineTarget t s) := by
  unfold quarantineTarget
  dsimp only
  split
  · exact .refl s
  · exact keepsTags_changeTarget ..
  · exact keepsTags_changeTarget ..
  · refine .trans ?_ (keepsTags_removeProbe ..)
    split
    · exact .refl s
    · exact .of_lanes rfl rfl rfl rfl rfl

theorem keepsTags_startCycle (c : Word16) : KeepsTags s (startCycle c s) := by
  refine ⟨?_, ?_, ?_, ?_, fun k => (startCycle_sameButTiers c s k).waitingResets_eq⟩ <;> rw [startCycle_frame]

/-! ### Alert lines (R79 to R93) -/

theorem keepsTags_setLine (l : Fin 8) (x : Line) : KeepsTags s (s.setLine l x) := .of_lanes rfl rfl rfl rfl rfl

theorem keepsTags_trigger (l : Fin 8) : KeepsTags s (trigger l s) := by
  refine .of_sameButTiers ?_ ?_ ?_ ?_ (trigger_sameButTiers l s) <;> rw [trigger_frame]

theorem keepsTags_moveLine (l : Fin 8) : KeepsTags s (moveLine l s) := by
  unfold moveLine
  split
  · exact keepsTags_trigger ..
  · exact keepsTags_setLine ..

theorem keepsTags_takeLevel (l : Fin 8) : KeepsTags s (takeLevel l s) := by
  unfold takeLevel
  dsimp only
  refine (keepsTags_setLine s l { s.line l with level := inputActive s l }).trans ?_
  split
  · unfold activeEdge
    split
    · exact keepsTags_trigger ..
    · split
      · exact keepsTags_setLine ..
      · exact .refl _
  · exact .refl _

theorem keepsTags_enableLine (q : AlertRequest) : KeepsTags s (enableLine q s) := by
  refine (keepsTags_setLine s q.line ((s.line q.line).armedWith q (s.alertPins.get q.line))).trans ?_
  unfold enableLine levelTrigger
  split
  · exact keepsTags_trigger ..
  · exact .refl _

theorem keepsTags_disableLine (l : Fin 8) : KeepsTags s (disableLine l s) := by
  unfold disableLine
  dsimp only
  split
  · exact .refl s
  · exact keepsTags_setLine ..
  · exact keepsTags_setLine ..
  · refine .trans (.trans (keepsTags_setLine ..) (keepsTags_setLane ?_)) (keepsTags_wakeLane ..)
    rfl
  · exact keepsTags_setLine ..

theorem keepsTags_evaluateLines (picks : List Nat) : KeepsTags s (evaluateLines picks s) := by
  refine .trans ?_ (.foldl (fun u l => keepsTags_trigger u l) ..)
  exact .of_lanes rfl rfl rfl rfl rfl

/-! ### The end of transactions (R55) -/

theorem reportOutcome_sameButTiers (x : Transaction) (held : Reservation) (f : Final) (k : Fin 4) :
    (s.lane k).SameButTiers ((reportOutcome x held f s).lane k) := by
  unfold reportOutcome
  split
  · split
    · exact releaseReservation_sameButTiers ..
    · exact (tellsLanes_pollCompletion ..).sameButTiers k
  · exact (tellsLanes_endAlertRead ..).sameButTiers k
  · exact (tellsLanes_endRunningJob ..).sameButTiers k
  · exact .refl _

theorem keepsTags_reportOutcome (x : Transaction) (held : Reservation) (f : Final) :
    KeepsTags s (reportOutcome x held f s) := by
  refine .of_sameButTiers ?_ ?_ ?_ ?_ (reportOutcome_sameButTiers s x held f) <;> rw [reportOutcome_frame]

theorem Lane.endTxn_waitingResets (l : Lane) (status : RecordStatus) :
    (l.endTxn status).waitingResets = l.waitingResets := by
  rw [Lane.endTxn_eq]

theorem keepsTags_endTransaction (i : Fin 4) (f : Final) : KeepsTags s (endTransaction i f s) := by
  unfold endTransaction
  split
  · exact .refl s
  · refine .trans ?_ (keepsTags_wakeLane ..)
    refine .trans ?_ (keepsTags_reportOutcome ..)
    refine .trans ?_ (keepsTags_targetOutcome ..)
    exact keepsTags_setLane (Lane.endTxn_waitingResets ..)

/-- A LANE_RESET leaves the lane's earlier ones waiting (R60, R61). -/
theorem keepsTags_abandonLane (i : Fin 4) : KeepsTags s (abandonLane i s) := by
  unfold abandonLane
  split
  · exact .refl s
  · exact .refl s
  · exact keepsTags_setLane rfl
  · exact keepsTags_endTransaction ..
  · refine .trans ?_ (keepsTags_post ..)
    exact keepsTags_setLane rfl

/-! ### Jobs that leave a queue (R71 to R77) -/

theorem keepsTags_endQueuedJob (j : Job) (status : RecordStatus) : KeepsTags s (endQueuedJob j status s) :=
  (keepsTags_addRecord ..).trans (keepsTags_releaseIf ..)

theorem keepsTags_cancelJob (i : Fin 4) (number : Nat) : KeepsTags s (cancelJob i number s) := by
  unfold cancelJob
  split
  · refine .trans ?_ (keepsTags_wakeLane ..)
    refine .trans ?_ (keepsTags_endQueuedJob ..)
    exact keepsTags_setLane rfl
  · exact .refl s

theorem keepsTags_flushJobs (i : Fin 4) : KeepsTags s (flushJobs i s) := by
  refine .trans ?_ (.foldl (fun u j => keepsTags_endQueuedJob u j .cancelled) ..)
  exact keepsTags_setLane rfl

theorem keepsTags_drainHead (i : Fin 4) (j : Job) (rest : List Job) : KeepsTags s (drainHead i j rest s) := by
  have hleaves : KeepsTags s (s.setLane i { s.lane i with jobs := rest }) := keepsTags_setLane rfl
  refine .trans ?_ (keepsTags_endQueuedJob ..)
  exact hleaves.trans (.of_lanes rfl rfl rfl rfl rfl)

/-! ### Polls, counters and settings -/

theorem keepsTags_unlistPoll (p : Fin 48) : KeepsTags s (unlistPoll p s) :=
  .foldl (fun u i => by
    split
    · refine .trans ?_ (keepsTags_wakeLane ..)
      exact keepsTags_setLane rfl
    · exact .refl u) ..

theorem keepsTags_markDefinitionEnd (p : Fin 48) : KeepsTags s (markDefinitionEnd p s) :=
  ⟨rfl, rfl, rfl, rfl, fun i => by rw [markDefinitionEnd, State.lane, Table.get_map]; rfl⟩

/-- The definition of an entry that is replaced ends (R24 to R26). -/
theorem keepsTags_redefine (p : Fin 48) (x : Poll) :
    KeepsTags s (unlistPoll p (markDefinitionEnd p (s.setPoll p x))) := by
  refine .trans ?_ (keepsTags_unlistPoll ..)
  refine .trans ?_ (keepsTags_markDefinitionEnd ..)
  exact .of_lanes rfl rfl rfl rfl rfl

theorem keepsTags_pausePoll (p : Fin 48) : KeepsTags s (pausePoll p s) := by
  refine .trans ?_ (keepsTags_unlistPoll ..)
  exact .of_lanes rfl rfl rfl rfl rfl

theorem keepsTags_clearLanes : KeepsTags s (clearLanes s) :=
  .of_mapLanes (f := fun l => { l with counts := .zero }) (fun _ => rfl) rfl rfl rfl rfl rfl

theorem keepsTags_clearClass (c : CounterClass) : KeepsTags s (clearClass c s) := by
  cases c with
  | all =>
    have hcleared : KeepsTags s (clearPolls (clearTargets s)) := .of_lanes rfl rfl rfl rfl rfl
    have hrest (u : State) : KeepsTags u (clearHost (clearResult (clearAlerts u))) := .of_lanes rfl rfl rfl rfl rfl
    exact (hcleared.trans (keepsTags_clearLanes _)).trans (hrest _)
  | lane => exact keepsTags_clearLanes s
  | target | poll | alert | result | host => exact .of_lanes rfl rfl rfl rfl rfl

theorem keepsTags_withInterval (n : Nat) :
    KeepsTags s { s with interval := n, lanes := s.lanes.map fun l => l.withInterval n } :=
  .of_mapLanes (f := fun l => l.withInterval n) (fun _ => rfl) rfl rfl rfl rfl rfl

theorem keepsTags_withSettings (q : LaneRequest) :
    KeepsTags s (s.setLane q.lane ((s.lane q.lane).withSettings s.interval q)) := keepsTags_setLane rfl

end

/-! ### Looking for work (R42 to R47) -/

theorem KeepsTags.next {s : State} {r : Look} {examine : State → Look} (hr : KeepsTags s r.state)
    (hnext : ∀ u, KeepsTags u (examine u).state) : KeepsTags s (r.next examine).state := by
  cases r with
  | started u | settled u => exact hr
  | passed u => exact KeepsTags.trans hr (hnext u)

section
variable (i : Fin 4) (s : State)

theorem keepsTags_startTransaction (x : Transaction) : KeepsTags s (startTransaction i x s) := by
  have hbegin : KeepsTags s (s.setLane i ((s.lane i).begin x)) := keepsTags_setLane rfl
  unfold startTransaction
  dsimp only
  split
  · exact hbegin.trans (keepsTags_claimBlock _)
  · exact hbegin

theorem keepsTags_examineHead {s : State} {x : Transaction} {close start : State → State}
    (hclose : KeepsTags s (close s)) (hstart : KeepsTags s (start s)) :
    KeepsTags s (examineHead i x close start s).state := by
  unfold examineHead
  split
  · exact hclose
  · split
    · exact hstart.trans (keepsTags_startTransaction ..)
    · exact .refl s

theorem keepsTags_lookProbe : KeepsTags s (lookProbe i s).state := by
  unfold lookProbe
  split
  · exact keepsTags_examineHead i (keepsTags_setLane rfl) (keepsTags_setLane rfl)
  · exact .refl s

theorem keepsTags_lookAlert : KeepsTags s (lookAlert i s).state := by
  have htier (reads : List (Fin 8)) : KeepsTags s (s.setLane i { s.lane i with alertTier := reads }) :=
    keepsTags_setLane rfl
  unfold lookAlert
  split
  · dsimp only
    split
    · split
      · exact ((htier _).trans (keepsTags_addRecord ..)).trans (keepsTags_moveLine ..)
      · exact .refl s
    · exact keepsTags_examineHead i (keepsTags_setLane rfl) ((htier _).trans (keepsTags_setLine ..))
  · exact .refl s

theorem keepsTags_skipQuarantined (ps : List (Fin 48)) : KeepsTags s (skipQuarantined i ps s) := by
  induction ps generalizing s with
  | nil => exact .refl s
  | cons p rest ih =>
    unfold skipQuarantined
    split
    · refine .trans ?_ (ih _)
      refine .trans ?_ (keepsTags_post ..)
      have hskips : KeepsTags s (s.setLane i { s.lane i with workList := rest }) := keepsTags_setLane rfl
      exact hskips.trans (.of_lanes rfl rfl rfl rfl rfl)
    · exact .refl s

theorem keepsTags_lookPoll : KeepsTags s (lookPoll i s).state := by
  unfold lookPoll
  split
  · exact keepsTags_examineHead i (keepsTags_setLane rfl) (keepsTags_setLane rfl)
  · exact .refl s

theorem keepsTags_lookSchedule : KeepsTags s (lookSchedule i s).state := by
  unfold lookSchedule
  split
  · exact .refl s
  · exact (keepsTags_skipQuarantined ..).trans (keepsTags_lookPoll ..)

theorem keepsTags_lookJob : KeepsTags s (lookJob i s).state := by
  unfold lookJob
  split
  · split
    · split
      · refine .trans ?_ (keepsTags_endQueuedJob ..)
        exact keepsTags_setLane rfl
      · exact .refl s
    · exact keepsTags_examineHead i (keepsTags_setLane rfl) (keepsTags_setLane rfl)
  · exact .refl s

theorem keepsTags_lookOnce : KeepsTags s (lookOnce i s).state :=
  .next (.next (.next (keepsTags_lookProbe i s) (keepsTags_lookAlert i)) (keepsTags_lookSchedule i))
    (keepsTags_lookJob i)

theorem keepsTags_lookPasses (fuel : Nat) : KeepsTags s (lookPasses i fuel s) := by
  induction fuel generalizing s with
  | zero => exact .refl s
  | succ fuel ih =>
    have honce := keepsTags_lookOnce i s
    rw [lookPasses_succ]
    cases hlook : lookOnce i s with rw [hlook] at honce
    | started t => exact honce
    | settled t => exact honce.trans (ih t)
    | passed t => exact honce

theorem keepsTags_look : KeepsTags s (look i s) := by
  refine (keepsTags_lookPasses i s (lookFuel (s.lane i))).trans ?_
  exact keepsTags_setLane rfl

end

end Sys2Proof.Machine

/-! PROOF. The in-flight tag set (R133, R134, R146): the invariant with the tags whose replies are still to be found
meanwhile, what admission, replies, the end of DRAINING and the arbiter make of it, and the step lemma. -/

namespace Sys2Proof.Machine

/-! ### The tags still owed a reply (R133, R146) -/

/-- The tags of the LANE_RESETs that wait (R61). -/
def waitingTags (s : State) : List Byte := s.lanes.toList.flatMap fun l => l.waitingResets

/-- The tags of the ready replies to admitted commands (R135). -/
def readyTags (replies : List Reply) : List Byte := (replies.filter fun r => r.origin != .refusal).map fun r => r.tag

theorem owedTags_eq (s : State) : owedTags s = readyTags s.ready ++ s.stopTag.toList ++ waitingTags s := rfl

theorem readyTags_append (a b : List Reply) : readyTags (a ++ b) = readyTags a ++ readyTags b := by
  simp [readyTags]

theorem readyTags_of_admitted {replies : List Reply} (h : ∀ r ∈ replies, r.origin ≠ .refusal) :
    readyTags replies = replies.map fun r => r.tag := by
  rw [readyTags, List.filter_eq_self.2 (by simpa using h)]

theorem refusals_of_admitted {replies : List Reply} (h : ∀ r ∈ replies, r.origin ≠ .refusal) :
    (replies.filter fun r => r.origin == .refusal) = [] := by
  simpa using h

/-- An element of a list that is replaced gives up its part of a joined list and brings another. -/
theorem flatMap_set_perm {α β : Type} (f : α → List β) (x : α) {l : List α} {i : Nat} (h : i < l.length) :
    ((l.set i x).flatMap f ++ f l[i]).Perm (l.flatMap f ++ f x) := by
  induction l generalizing i with
  | nil => cases h
  | cons a l ih =>
    cases i with
    | zero =>
      simp only [List.set_cons_zero, List.flatMap_cons, List.getElem_cons_zero]
      rw [List.append_assoc (f a)]
      exact List.perm_append_comm.trans (List.perm_append_comm.append_left (f a))
    | succ i =>
      simp only [List.set_cons_succ, List.flatMap_cons, List.getElem_cons_succ, List.append_assoc]
      exact (ih (Nat.lt_of_succ_lt_succ h)).append_left _

/-- A lane that is replaced gives up the LANE_RESETs that wait on it and brings others. -/
theorem waitingTags_setLane (s : State) (i : Fin 4) (x : Lane) :
    (waitingTags (s.setLane i x) ++ (s.lane i).waitingResets).Perm (waitingTags s ++ x.waitingResets) :=
  flatMap_set_perm (fun l : Lane => l.waitingResets) x (by rw [s.lanes.length_eq]; exact i.isLt)

theorem waitingTags_of_kept {s u : State} (h : KeepsTags s u) : waitingTags u = waitingTags s := by
  simp only [waitingTags, State.lanes_toList, List.flatMap_map, h.waiting]

theorem owedTags_of_kept {s u : State} (h : KeepsTags s u) : owedTags u = owedTags s := by
  rw [owedTags_eq, owedTags_eq, h.ready, h.stopTag, waitingTags_of_kept h]

/-! ### The invariant while replies are still to be found -/

/-- The in-flight tag set is in order, the tags `due` being those that neither a ready reply nor a waiting one answers
for the moment. -/
structure TagsOwed (s : State) (due : List Byte) : Prop where
  room : s.inFlight.length ≤ 8
  nonzero : (0 : Byte) ∉ s.inFlight
  nodup : s.inFlight.Nodup
  owed : s.inFlight.Perm (due ++ owedTags s)
  refusals : s.refusals.length ≤ 4
  stop : s.stopTag.isSome = true ↔ s.op = .draining

/-- Between happenings no tag is due (R133). -/
theorem tagInv_iff {s : State} : TagInv s ↔ TagsOwed s [] := by
  constructor
  · rintro ⟨hroom, hnonzero, hnodup, howed, hrefusals, hstop⟩
    exact ⟨hroom, hnonzero, hnodup, howed, hrefusals, hstop⟩
  · rintro ⟨hroom, hnonzero, hnodup, howed, hrefusals, hstop⟩
    exact ⟨hroom, hnonzero, hnodup, howed, hrefusals, hstop⟩

section
variable {s u : State} {due due' : List Byte}

/-- No tag is admitted or leaves; what becomes due was owed, and what was due is owed. -/
theorem TagsOwed.of_sameTags (h : TagsOwed s due) (hi : u.inFlight = s.inFlight)
    (howed : (due ++ owedTags s).Perm (due' ++ owedTags u)) (hr : u.refusals = s.refusals)
    (hs : u.stopTag.isSome = true ↔ u.op = .draining) : TagsOwed u due' where
  room := hi ▸ h.room
  nonzero := hi ▸ h.nonzero
  nodup := hi ▸ h.nodup
  owed := hi ▸ h.owed.trans howed
  refusals := hr ▸ h.refusals
  stop := hs

theorem TagsOwed.of_kept (h : TagsOwed s due) (hk : KeepsTags s u) : TagsOwed u due := by
  refine h.of_sameTags hk.inFlight (.of_eq (by rw [owedTags_of_kept hk])) ?_ ?_
  · rw [State.refusals, State.refusals, hk.ready]
  · rw [hk.stopTag, hk.op]
    exact h.stop

/-! ### Replies (R135, R134) -/

/-- Replies to admitted commands become ready: their tags are owed by them. -/
theorem owedTags_ready {replies : List Reply} (hr : ∀ r ∈ replies, r.origin ≠ .refusal)
    (hu : u.ready = s.ready ++ replies) (hs : u.stopTag = s.stopTag) (hl : u.lanes = s.lanes) :
    (owedTags u).Perm (replies.map (fun r => r.tag) ++ owedTags s) := by
  rw [owedTags_eq, owedTags_eq, hu, hs, readyTags_append, readyTags_of_admitted hr, waitingTags, waitingTags, hl]
  simp only [List.append_assoc]
  exact List.perm_append_comm_assoc ..

theorem refusals_ready {replies : List Reply} (hr : ∀ r ∈ replies, r.origin ≠ .refusal)
    (hu : u.ready = s.ready ++ replies) : u.refusals = s.refusals := by
  rw [State.refusals, hu, List.filter_append, refusals_of_admitted hr, List.append_nil]
  rfl

/-- The replies to commands that are due become ready. -/
theorem TagsOwed.replies {replies : List Reply} (hr : ∀ r ∈ replies, r.origin ≠ .refusal)
    (h : TagsOwed s (replies.map fun r => r.tag)) : TagsOwed { s with ready := s.ready ++ replies } [] := by
  have howed : (owedTags { s with ready := s.ready ++ replies }).Perm (replies.map (fun r => r.tag) ++ owedTags s) :=
    owedTags_ready hr rfl rfl rfl
  exact h.of_sameTags rfl howed.symm (refusals_ready hr rfl) h.stop

theorem TagsOwed.reply {r : Reply} (hr : r.origin ≠ .refusal) (h : TagsOwed s [r.tag]) :
    TagsOwed (makeReady r s) [] :=
  .replies (by simpa using hr) h

theorem TagsOwed.answer {tag : Byte} (h : TagsOwed s [tag]) (kind : Byte) (fields : List Byte) :
    TagsOwed (answer tag kind fields s) [] :=
  .reply (r := okReply tag kind fields) nofun h

/-- A command acts without touching tags and replies, and is answered. -/
theorem TagsOwed.answer_of_kept {tag : Byte} (h : TagsOwed s [tag]) (hk : KeepsTags s u) (kind : Byte)
    (fields : List Byte) : TagsOwed (Machine.answer tag kind fields u) [] :=
  (h.of_kept hk).answer kind fields

/-- A frame that is not admitted is refused, or counted where four refusals wait (R134). -/
theorem TagsOwed.refuse (h : TagsOwed s due) (kind tag : Byte) (status : ReplyStatus) :
    TagsOwed (refuse kind tag status s) due := by
  unfold Machine.refuse
  split
  · rename_i hroom
    refine { h with owed := ?_, refusals := ?_ }
    · rw [owedTags_eq, makeReady, readyTags_append]
      exact (List.append_nil (readyTags s.ready)).symm ▸ h.owed
    · rw [State.refusals, makeReady, List.filter_append, List.length_append]
      exact hroom
  · exact h.of_kept (keepsTags_hostError ..)

/-- A frame is admitted or refused (R133): the tag of an admitted one is due until its command has acted. -/
theorem TagsOwed.admission {kind tag : Byte} {effect : State → State} (h : TagsOwed s [])
    (heffect : ∀ u, TagsOwed u [tag] → TagsOwed (effect u) []) : TagsOwed (admission kind tag effect s) [] := by
  rcases admission_cases kind tag effect s with ⟨h0, hnew, hroom, hadm⟩ | ⟨status, _, href⟩
  · rw [hadm]
    refine heffect _ { h with room := ?_, nonzero := ?_, nodup := ?_, owed := ?_ }
    · simpa using hroom
    · simpa using ⟨h.nonzero, Ne.symm h0⟩
    · exact h.nodup.append (List.nodup_singleton tag) (by simpa using hnew)
    · exact List.perm_append_comm.trans (h.owed.append_left [tag])
  · rw [href]
    exact h.refuse ..

/-! ### LANE_RESETs that wait, and the end of DRAINING (R61, R156) -/

/-- The LANE_RESETs that wait on a lane change. -/
theorem TagsOwed.setLane (h : TagsOwed s due) {i : Fin 4} {x : Lane}
    (hx : (due ++ (s.lane i).waitingResets).Perm (due' ++ x.waitingResets)) : TagsOwed (s.setLane i x) due' := by
  refine h.of_sameTags rfl ?_ rfl h.stop
  have hlanes := waitingTags_setLane s i x
  rw [List.perm_iff_count] at hlanes hx ⊢
  intro t
  have hlane := hlanes t
  have hdue := hx t
  simp only [owedTags_eq, List.count_append, State.setLane_ready, State.setLane_stopTag] at hlane hdue ⊢
  omega

/-- The reply of the STOP that is due waits for the end of DRAINING (R155). -/
theorem TagsOwed.defer {tag : Byte} (h : TagsOwed s [tag]) (hnone : s.stopTag = none) :
    TagsOwed { s with op := .draining, stopTag := some tag } [] := by
  refine h.of_sameTags rfl ?_ rfl (by simp)
  have hwaiting : waitingTags { s with op := .draining, stopTag := some tag } = waitingTags s := rfl
  rw [owedTags_eq, owedTags_eq, hnone, hwaiting]
  simpa using List.perm_middle.symm

theorem stopReply_tags (s : State) : (stopReply s).map (fun r => r.tag) = s.stopTag.toList := by
  unfold stopReply
  cases s.stopTag <;> rfl

theorem stopReply_origin (s : State) : ∀ r ∈ stopReply s, r.origin ≠ .refusal := by
  unfold stopReply
  cases s.stopTag <;> simp [okReply]

/-- The replies of a happening become ready, with that of the STOP where DRAINING ends (R146, R156). -/
theorem TagsOwed.finishDrain {others : List Reply} (hothers : ∀ r ∈ others, r.origin ≠ .refusal)
    (h : TagsOwed s (others.map fun r => r.tag)) : TagsOwed (finishDrain others s) [] := by
  unfold Machine.finishDrain
  split
  · have hperm := inAdmissionOrder_perm s.inFlight others (stopReply s)
    have hjoin : ∀ r ∈ inAdmissionOrder s.inFlight others (stopReply s), r.origin ≠ .refusal := fun r hr =>
      (List.mem_append.1 (hperm.subset hr)).elim (hothers r) (stopReply_origin s r)
    refine h.of_sameTags rfl ?_ (refusals_ready hjoin rfl) (by simp)
    have htags := hperm.map fun r => r.tag
    rw [List.map_append, stopReply_tags] at htags
    rw [owedTags_eq, owedTags_eq, readyTags_append, readyTags_of_admitted hjoin]
    rw [List.perm_iff_count] at htags ⊢
    intro t
    have htag := htags t
    simp only [waitingTags, List.count_append, Option.toList_none, List.count_nil] at htag ⊢
    omega
  · exact .replies hothers h

/-- DRAINING may end where no reply is due (R156). -/
theorem TagsOwed.drained (h : TagsOwed s []) : TagsOwed (Machine.finishDrain [] s) [] := .finishDrain (by simp) h

/-! ### The arbiter (R133, R136) -/

/-- The oldest ready reply is taken, and the tag of an admitted command leaves the set (R133). -/
theorem TagsOwed.takeReply {r : Reply} {rest : List Reply} (hready : s.ready = r :: rest) (h : TagsOwed s []) :
    TagsOwed (takeReply r rest s) [] := by
  have hrefusals : (Machine.takeReply r rest s).refusals.length ≤ 4 := by
    refine le_trans ?_ h.refusals
    rw [State.refusals, State.refusals, hready]
    exact ((List.sublist_cons_self r rest).filter _).length_le
  have howed := h.owed
  rw [owedTags_eq, hready] at howed
  by_cases hr : r.origin = .refusal
  · have hkept : (Machine.takeReply r rest s).inFlight = s.inFlight := if_pos hr
    refine ⟨hkept ▸ h.room, hkept ▸ h.nonzero, hkept ▸ h.nodup, hkept ▸ ?_, hrefusals, h.stop⟩
    have hcons : readyTags (r :: rest) = readyTags rest := by simp [readyTags, hr]
    rwa [hcons] at howed
  · have hleft : (Machine.takeReply r rest s).inFlight = s.inFlight.erase r.tag := if_neg hr
    have hsub := List.erase_sublist (a := r.tag) (l := s.inFlight)
    refine ⟨hleft ▸ hsub.length_le.trans h.room, hleft ▸ fun h0 => h.nonzero (hsub.subset h0),
      hleft ▸ h.nodup.sublist hsub, hleft ▸ ?_, hrefusals, h.stop⟩
    have hcons : readyTags (r :: rest) = r.tag :: readyTags rest := by simp [readyTags, hr]
    rw [hcons] at howed
    have hrest := howed.erase r.tag
    rwa [List.nil_append, List.cons_append, List.cons_append, List.erase_cons_head] at hrest

theorem TagsOwed.arbitrate (h : TagsOwed s []) : TagsOwed (arbitrate s) [] := by
  rcases arbitrate_cases s with hnone | ⟨_, _, htaken⟩ | ⟨r, rest, _, _, hready, htaken⟩ |
    ⟨_, _, _, _, _, _, _, htaken⟩ | ⟨_, _, _, _, _, _, _, _, htaken⟩
  · rw [hnone]
    exact h
  · rw [htaken]
    exact h.of_kept (.of_lanes rfl rfl rfl rfl rfl)
  · rw [htaken]
    exact h.takeReply hready
  · rw [htaken]
    exact h.of_kept (.of_lanes rfl rfl rfl rfl rfl)
  · rw [htaken]
    exact h.of_kept (keepsTags_takeRecord ..)

/-- Right after a reset no tag is in flight and no reply is owed (R152). -/
theorem tagsOwed_of_reset (hi : u.inFlight = []) (hr : u.ready = []) (hs : u.stopTag = none) (ho : u.op = .init)
    (hl : u.lanes = State.reset.lanes) : TagsOwed u [] := by
  have howed : owedTags u = [] := by
    rw [owedTags_eq, hr, hs, waitingTags, hl]
    rfl
  refine ⟨?_, ?_, ?_, ?_, ?_, ?_⟩ <;> simp [hi, hs, ho, howed, State.refusals, hr]

end

end Sys2Proof.Machine

/-! PROOF. The in-flight tag set at every command and event, and its step lemma. -/

namespace Sys2Proof.Machine

/-! ### Admitted commands (R142, R143) -/

theorem TagsOwed.carryOut {α : Type} {tag kind : Byte} {checked : Checked α} {effect : α → State → State} {s : State}
    (h : TagsOwed s [tag]) (heffect : ∀ a, checked = .ok a → TagsOwed (effect a s) []) :
    TagsOwed (carryOut tag kind checked effect s) [] := by
  cases checked with
  | error status => exact .reply nofun h
  | ok a => exact heffect a rfl

theorem op_of_checkEmpty {legal : OpState → Bool} {body : List Byte} {s : State} {a : Unit}
    (h : checkEmpty legal body s = .ok a) : legal s.op = true := by
  unfold checkEmpty at h
  split_ifs at h
  assumption

section
variable {s : State} {tag : Byte} (h : TagsOwed s [tag]) (body : List Byte)
include h

/-- START is legal where no STOP waits (R144, R154). -/
theorem tagsOwed_runStart : TagsOwed (runStart tag body s) [] := by
  refine h.carryOut fun _ hlegal => .answer (.of_kept ?_ (keepsTags_startCycle ..)) _ _
  have hstandby : s.op = .standby := by simpa [OpState.legalInStandby] using op_of_checkEmpty hlegal
  refine h.of_sameTags rfl (.refl _) rfl ?_
  simpa [hstandby] using h.stop

/-- The reply of an accepted STOP waits for the end of DRAINING (R155). -/
theorem tagsOwed_runStop : TagsOwed (runStop tag body s) [] := by
  refine h.carryOut fun _ hlegal => .drained ?_
  have hrunning : s.op = .running := by simpa [OpState.legalInRunning] using op_of_checkEmpty hlegal
  have hstopped : KeepsTags s
      { s with drainCancelled := 0, evaluationOwed := false, targets := Table.ofFn (stoppedTarget s)
               lanes := s.lanes.map Lane.stopped, lines := s.lines.map Line.stopped } :=
    .of_mapLanes (f := Lane.stopped) (fun _ => rfl) rfl rfl rfl rfl rfl
  exact (h.of_kept hstopped).defer (by simpa [hrunning] using h.stop)

/-- A LANE_RESET waits for the end of the recovery (R61). -/
theorem tagsOwed_runLaneReset : TagsOwed (runLaneReset tag body s) [] := by
  refine h.carryOut fun i _ => (h.of_kept (keepsTags_abandonLane s i)).setLane ?_
  exact List.perm_append_comm

theorem tagsOwed_runSetLane : TagsOwed (runSetLane tag body s) [] := by
  refine h.carryOut fun q _ => h.answer_of_kept ?_ _ _
  split
  · exact (keepsTags_withSettings s q).trans (keepsTags_post ..)
  · exact keepsTags_withSettings s q

theorem tagsOwed_runSetPollState : TagsOwed (runSetPollState tag body s) [] := by
  refine h.carryOut fun a _ => ?_
  split
  · refine h.answer_of_kept ?_ _ _
    exact .of_lanes rfl rfl rfl rfl rfl
  · exact h.answer_of_kept (keepsTags_pausePoll ..) _ _

theorem tagsOwed_runSetTargetState : TagsOwed (runSetTargetState tag body s) [] := by
  refine h.carryOut fun a _ => h.answer_of_kept ?_ _ _
  split
  · exact keepsTags_quarantineTarget ..
  · exact keepsTags_reviveTarget ..

theorem tagsOwed_runReadLane : TagsOwed (runReadLane tag body s) [] := by
  refine h.carryOut fun _ _ => h.answer_of_kept ?_ _ _
  rw [afterChoice_frame]
  exact .of_lanes rfl rfl rfl rfl rfl

theorem tagsOwed_runSubmit : TagsOwed (runSubmit tag body s) [] := by
  refine h.carryOut fun q _ => h.answer_of_kept (.trans ?_ (keepsTags_wakeLane ..)) _ _
  refine .trans ?_ (keepsTags_setLane rfl)
  split <;> exact .of_lanes rfl rfl rfl rfl rfl

theorem tagsOwed_runCancel : TagsOwed (runCancel tag body s) [] :=
  h.carryOut fun _ _ => .finishDrain (by simp [okReply]) (h.of_kept (keepsTags_cancelJob ..))

theorem tagsOwed_runFlushLane : TagsOwed (runFlushLane tag body s) [] := by
  refine h.carryOut fun i _ => .finishDrain (by simp [okReply]) (h.of_kept ?_)
  split
  · exact keepsTags_flushJobs ..
  · exact (keepsTags_flushJobs ..).trans (keepsTags_wakeLane ..)

theorem tagsOwed_runSetAlert : TagsOwed (runSetAlert tag body s) [] := by
  refine h.carryOut fun a _ => ?_
  cases a with
  | inl q => exact h.answer_of_kept (keepsTags_enableLine s q) _ _
  | inr l => exact h.answer_of_kept (keepsTags_disableLine s l) _ _

/-- Every command is answered, or its reply waits (R133, 12.2). -/
theorem tagsOwed_commandOf {kind : Byte} {run : Byte → List Byte → State → State} (hkind : commandOf kind = some run) :
    TagsOwed (run tag body s) [] := by
  unfold commandOf at hkind
  split at hkind <;> cases hkind
  · exact h.carryOut fun _ _ => h.answer _ _
  · exact h.carryOut fun _ _ => h.answer _ _
  · exact h.carryOut fun c _ => h.answer_of_kept (keepsTags_clearClass s c) _ _
  · exact h.carryOut fun _ _ => .reply nofun (h.of_kept (keepsTags_setReceiver s _))
  · exact tagsOwed_runStart h body
  · exact tagsOwed_runStop h body
  · exact h.carryOut fun n _ => h.answer_of_kept (keepsTags_withInterval s n) _ _
  · exact h.carryOut fun _ _ => h.answer_of_kept (keepsTags_redefine ..) _ _
  · exact h.carryOut fun _ _ => h.answer_of_kept (keepsTags_redefine ..) _ _
  · exact tagsOwed_runSetPollState h body
  · exact h.carryOut fun _ _ => h.answer _ _
  · exact tagsOwed_runSetLane h body
  · exact tagsOwed_runReadLane h body
  · exact tagsOwed_runLaneReset h body
  · exact h.carryOut fun _ _ => h.answer_of_kept (keepsTags_changeTarget ..) _ _
  · exact h.carryOut fun t _ =>
      h.answer_of_kept ((keepsTags_removeProbe s t).trans (keepsTags_changeTarget ..)) _ _
  · exact h.carryOut fun _ _ => h.answer _ _
  · exact tagsOwed_runSetTargetState h body
  · exact tagsOwed_runSubmit h body
  · exact tagsOwed_runCancel h body
  · exact tagsOwed_runFlushLane h body
  · exact tagsOwed_runSetAlert h body
  · exact h.carryOut fun _ _ => h.answer _ _
  · refine h.carryOut fun n _ => h.answer_of_kept ?_ _ _
    exact .of_lanes rfl rfl rfl rfl rfl

theorem tagsOwed_runFrame (kind : Byte) : TagsOwed (runFrame kind tag body s) [] := by
  unfold runFrame
  split
  · rename_i hkind
    exact tagsOwed_commandOf h body hkind
  · exact .reply nofun h

end

/-! ### The receiver and resets (R130, R131, R152) -/

section
variable {s : State} (h : TagsOwed s [])
include h

theorem tagsOwed_judge (frame : List Byte) : TagsOwed (judge frame s) [] := by
  have hhunt : TagsOwed (toHunt s) [] := h.of_kept (keepsTags_setReceiver ..)
  unfold judge
  dsimp only
  split
  · split
    · exact hhunt.admission fun _ hu => tagsOwed_runFrame hu _ _
    · exact hhunt
  · exact hhunt.of_kept (keepsTags_hostError ..)

theorem tagsOwed_takeByte (b : Byte) : TagsOwed (takeByte b s) [] := by
  have hreceiver (r : Receiver) : TagsOwed { s with receiver := r } [] := h.of_kept (keepsTags_setReceiver ..)
  unfold takeByte
  split
  · split
    · exact hreceiver _
    · exact h
  · split
    · exact hreceiver _
    · exact (hreceiver _).of_kept (keepsTags_hostError ..)
  · split
    · exact hreceiver _
    · exact hreceiver _
  · split
    · exact tagsOwed_judge h _
    · exact hreceiver _

theorem tagsOwed_frameSent (content : FrameContent) : TagsOwed (frameSent content s) [] := by
  unfold frameSent
  split
  · exact h.of_kept (keepsTags_setReceiver ..)
  · exact tagsOwed_of_reset rfl rfl rfl rfl rfl
  all_goals exact h

end

/-! ### One happening -/

/-- Whatever state a happening answers, its tags are in order. -/
abbrev AnswersTags (o : Host.Outcome State Fault Refusal) : Prop := Answers (TagsOwed · []) o

section
variable {s : State} (h : TagsOwed s [])
include h

theorem answersTags_finish : AnswersTags (finish s) := .next h.arbitrate

theorem answersTags_finish_of_kept {u : State} (hk : KeepsTags s u) : AnswersTags (finish u) :=
  answersTags_finish (h.of_kept hk)

theorem answersTags_endStep (i : Fin 4) (f : Final) : AnswersTags (endStep i f s) :=
  answersTags_finish (h.of_kept (keepsTags_endTransaction s i f)).drained

/-- The end of an attempt that the lane counts (R52, R53). -/
theorem answersTags_countedEnd (i : Fin 4) (counts : LaneCounts) (f : Final) :
    AnswersTags (endStep i f (s.setLane i { s.lane i with counts := counts })) := by
  refine answersTags_endStep (h.of_kept ?_) i f
  exact keepsTags_setLane rfl

/-- The LANE_RESETs that waited are answered when the recovery ends (R61). -/
theorem answersTags_recoveryStep {i : Fin 4} {state : LaneState} {x : Lane} {ended : State}
    (hx : x.waitingResets = []) (hk : KeepsTags (s.setLane i x) ended) :
    AnswersTags (recoveryStep i state ended s) := by
  have htags : (resetReplies i (s.lane i).waitingResets state).map (fun r => r.tag) = (s.lane i).waitingResets := by
    rw [resetReplies, List.map_map]
    exact List.map_id _
  have hended : TagsOwed ended (s.lane i).waitingResets :=
    (h.setLane (due' := (s.lane i).waitingResets) (by simp [hx])).of_kept hk
  exact answersTags_finish (.finishDrain (by simp [resetReplies, okReply]) (by rw [htags]; exact hended))

theorem answersTags_execAttemptAddrNack (i : Fin 4) : AnswersTags (execAttemptAddrNack i s) :=
  .onTransaction h fun _ _ =>
    .ite (fun _ => answersTags_finish_of_kept h (keepsTags_setLane rfl)) (answersTags_endStep h _ _)

theorem answersTags_execTransactionEnd (i : Fin 4) (result : BusResult) :
    AnswersTags (execTransactionEnd i result s) := by
  refine .onTransaction h fun x _ => ?_
  split
  · exact answersTags_endStep h _ _
  · exact .next h

theorem answersTags_faulted (i : Fin 4) (cause : FaultCause) (posted : LaneCause) :
    AnswersTags (recoveryStep i .faulted (faultLane i cause posted s) s) :=
  answersTags_recoveryStep h rfl (keepsTags_post ..)

theorem answersTags_recovered (i : Fin 4) : AnswersTags (recoveryStep i .idle (recoveredIdle i s) s) := by
  refine answersTags_recoveryStep h (x := { s.lane i with state := .idle, waitingResets := [], fromFault := false })
    rfl (.trans ?_ (keepsTags_wakeLane ..))
  split
  · exact keepsTags_post ..
  · exact .refl _

theorem answersTags_execRecoveryEnd (i : Fin 4) (result : RecoveryResult) :
    AnswersTags (execRecoveryEnd i result s) := by
  refine .ite (fun _ => ?_) (.next h)
  cases result with
  | busFree => exact answersTags_recovered h i
  | sdaHeld => exact answersTags_faulted h i _ _

theorem answersTags_execDrainRemoval (i : Fin 4) : AnswersTags (execDrainRemoval i s) := by
  unfold execDrainRemoval
  split
  · exact .ite (fun _ => answersTags_finish (h.of_kept (keepsTags_drainHead ..)).drained) (.next h)
  · exact .next h

theorem answersTags_execAlertInputChange (l : Fin 8) (high : Bool) : AnswersTags (execAlertInputChange l high s) := by
  have hpins : TagsOwed { s with alertPins := s.alertPins.set l high } [] :=
    h.of_kept (.of_lanes rfl rfl rfl rfl rfl)
  exact .ite (fun _ => answersTags_finish_of_kept hpins (keepsTags_takeLevel ..)) (.next hpins)

/-- The part leaves INIT, where no STOP waits (R152). -/
theorem answersTags_execInitEnd : AnswersTags (execInitEnd s) := by
  refine .ite (fun hinit => answersTags_finish (h.of_sameTags rfl (.refl _) rfl ?_)) (.next h)
  simpa [hinit.1] using h.stop

theorem answersTags_execTransmitEnd : AnswersTags (execTransmitEnd s) := by
  have hfree : TagsOwed { s with transmitter := none } [] := h.of_kept (.of_lanes rfl rfl rfl rfl rfl)
  unfold execTransmitEnd
  split
  · exact answersTags_finish (tagsOwed_frameSent hfree _)
  · exact .next h

theorem answersTags_event {c : Instr} (hframe : c.hostFrame = none) : AnswersTags (exec c s) := by
  cases c <;> cases hframe
  case powerOn | resetInput | supplyBelowOperatingLevel => exact .next (tagsOwed_of_reset rfl rfl rfl rfl rfl)
  case resetRelease => exact .ite (fun _ => .next (tagsOwed_of_reset rfl rfl rfl rfl rfl)) (.next h)
  case initEnd => exact answersTags_execInitEnd h
  case receiveByte => exact .ite (fun _ => answersTags_finish (tagsOwed_takeByte h _)) (.next h)
  case gapTimeout =>
    exact .ite (fun _ => answersTags_finish_of_kept h ((keepsTags_setReceiver s _).trans (keepsTags_hostError ..)))
      (.next h)
  case transmitEnd => exact answersTags_execTransmitEnd h
  case cycleStart => exact .ite (fun _ => answersTags_finish_of_kept h (keepsTags_startCycle ..)) (.next h)
  case lookForWork => exact .ite (fun _ => answersTags_finish_of_kept h (keepsTags_look ..)) (.next h)
  case attemptAddrNack => exact answersTags_execAttemptAddrNack h _
  case stretchTimeout => exact .onTransaction h fun _ _ => answersTags_countedEnd h _ _ _
  case busStuck => exact .onTransaction h fun _ _ => answersTags_endStep h _ _
  case arbLost => exact .onTransaction h fun _ _ => answersTags_countedEnd h _ _ _
  case transactionEnd => exact answersTags_execTransactionEnd h _ _
  case recoveryEnd => exact answersTags_execRecoveryEnd h _ _
  case recoverySclTimeout => exact .ite (fun _ => answersTags_faulted h _ _ _) (.next h)
  case drainRemoval => exact answersTags_execDrainRemoval h _
  case alertInputChange => exact answersTags_execAlertInputChange h _ _
  case alertFilterExpiry => exact .ite (fun _ => answersTags_finish_of_kept h (keepsTags_takeLevel ..)) (.next h)
  case alertEvaluation =>
    have hevaluated := keepsTags_withChoice s fun picks u => keepsTags_evaluateLines u picks
    exact .ite (fun _ => answersTags_finish_of_kept h hevaluated) (.next h)

/-- Every command and event keeps the tags in order. -/
theorem exec_answersTags (c : Instr) : AnswersTags (exec c s) := by
  cases hframe : c.hostFrame with
  | none => exact answersTags_event h hframe
  | some frame =>
    obtain ⟨run, hkind, hexec⟩ := exec_eq_hostCommand hframe s
    rw [hexec]
    refine .ite (fun _ => answersTags_finish (.admission ?_ fun _ hu => tagsOwed_commandOf hu _ hkind)) (.next h)
    exact h.of_kept (keepsTags_setReceiver ..)

end

/-- Settles O54: between happenings no tag is due, and every command and event that makes a tag due finds its reply or
leaves it waiting. -/
theorem stepKeepsTagDiscipline : Obligations.StepKeepsTagDiscipline := by
  intro s t h hstep
  refine tagInv_iff.2 (step_answers (P := (TagsOwed · [])) (fun u q hu => ?_) (fun c u hu => exec_answersTags hu c)
    (tagInv_iff.1 h) hstep)
  exact hu.of_kept (.of_lanes rfl rfl rfl rfl rfl)

end Sys2Proof.Machine

/-! PROOF. The receiver of the Host Port: what it does with a byte in each of its states (R130, R131), and how the bytes
of a frame arrive one by one (12.1). -/

namespace Sys2Proof.Machine

/-! ### One byte (R130, R131, R141) -/

section
variable {s : State} {b : Byte}

/-- A character received with the receiver on is a byte taken (R129, R130). -/
theorem exec_receiveByte {c : Character} (hon : s.receiver.on = true) (hearly : c.early = false) :
    exec (.receiveByte c) s = .next (arbitrate (takeByte (characterByte c) s)) := if_pos ⟨hon, hearly⟩

/-- With the receiver off, or begun before it came on, a character is discarded (R141). -/
theorem exec_receiveByte_discarded {c : Character} (h : s.receiver.on = false ∨ c.early = true) :
    exec (.receiveByte c) s = .next s := by
  refine if_neg ?_
  rintro ⟨hon, hearly⟩
  simp [hon, hearly] at h

theorem takeByte_hunt (h : s.receiver.state = .hunt) :
    takeByte b s = if b = 0x5A then { s with receiver := ⟨true, .length, [], 0, true⟩ } else s := by
  simp only [takeByte, h]

theorem takeByte_length (h : s.receiver.state = .length) :
    takeByte b s = if 2 ≤ b.toNat ∧ b.toNat ≤ 250 then store .body b b.toNat s else lengthError (toHunt s) := by
  simp only [takeByte, h]

theorem takeByte_body (h : s.receiver.state = .body) (he : 2 ≤ s.receiver.expects) :
    takeByte b s = store .body b (s.receiver.expects - 1) s := by
  simp only [takeByte, h, if_neg (Nat.not_le.2 he)]

theorem takeByte_bodyEnd (h : s.receiver.state = .body) (he : s.receiver.expects = 1) :
    takeByte b s = store .check b 2 s := by
  simp [takeByte, h, he]

theorem takeByte_check (h : s.receiver.state = .check) (he : s.receiver.expects = 2) :
    takeByte b s = store .check b 1 s := by
  simp [takeByte, h, he]

theorem takeByte_checkEnd (h : s.receiver.state = .check) (he : s.receiver.expects = 1) :
    takeByte b s = judge (s.receiver.buffer ++ [b]) s := by
  simp [takeByte, h, he]

/-! ### A complete frame (R130, R158) -/

variable {core : List Byte} {x y : Byte}

theorem take_before_check (core : List Byte) (x y : Byte) :
    (core ++ [x] ++ [y]).take ((core ++ [x] ++ [y]).length - 2) = core := by
  have hlen : (core ++ [x] ++ [y]).length - 2 = core.length := by simp
  rw [hlen, List.append_assoc, List.take_left]

theorem drop_before_check (core : List Byte) (x y : Byte) :
    (core ++ [x] ++ [y]).drop ((core ++ [x] ++ [y]).length - 2) = [x, y] := by
  have hlen : (core ++ [x] ++ [y]).length - 2 = core.length := by simp
  rw [hlen, List.append_assoc, List.drop_left, List.singleton_append]

/-- A CHECK that does not agree is a CHECK error (R131). -/
theorem judge_bad (h : crcBytes core ≠ [x, y]) : judge (core ++ [x] ++ [y]) s = checkError (toHunt s) := by
  rw [judge, take_before_check, drop_before_check]
  exact if_neg h

/-- A frame whose CHECK agrees is handed over (R130). -/
theorem judge_good {len kind tag : Byte} {body : List Byte} (h : crcBytes (len :: kind :: tag :: body) = [x, y]) :
    judge (len :: kind :: tag :: body ++ [x] ++ [y]) s = admission kind tag (runFrame kind tag body) (toHunt s) := by
  rw [judge, take_before_check, drop_before_check]
  exact if_pos h

end

/-! ### The bytes of a frame, one by one (12.1) -/

/-- The part in the middle of a frame: the receiver holds `buffer` and still expects `n` bytes (R130). -/
def receiving (state : ReceiverState) (buffer : List Byte) (n : Nat) (s : State) : State :=
  { s with receiver := ⟨true, state, buffer, n, true⟩ }

theorem store_receiving (state st : ReceiverState) (buffer : List Byte) (n k : Nat) (b : Byte) (s : State) :
    store state b k (receiving st buffer n s) = receiving state (buffer ++ [b]) k s := rfl

theorem feed_last {s : State} (hon : s.receiver.on = true) {b : Byte} :
    feed [b] s = .next (arbitrate (takeByte b s)) := by
  rw [feed, exec_receiveByte hon rfl, characterByte_characterOf]
  rfl

section
variable {s : State} (hs : Settled s)
include hs

/-- The receiver is nothing to the arbiter (R136). -/
theorem arbitrate_receiving (state : ReceiverState) (buffer : List Byte) (n : Nat) :
    arbitrate (receiving state buffer n s) = receiving state buffer n s :=
  (settled_iff (receiving state buffer n s)).2 ((settled_iff s).1 hs)

/-- A byte in the middle of a frame has no effect beyond the receiver. -/
theorem feed_cons {u : State} (hon : u.receiver.on = true) {b : Byte} {rest buffer : List Byte} {state : ReceiverState}
    {n : Nat} (hb : takeByte b u = receiving state buffer n s) :
    feed (b :: rest) u = feed rest (receiving state buffer n s) := by
  rw [feed, exec_receiveByte hon rfl, characterByte_characterOf, hb, arbitrate_receiving hs]

/-- The bytes from KIND to the end of BODY. -/
theorem feed_body (b : Byte) (bytes rest buffer : List Byte) :
    feed (b :: bytes ++ rest) (receiving .body buffer (bytes.length + 1) s) =
      feed rest (receiving .check (buffer ++ b :: bytes) 2 s) := by
  induction bytes generalizing b buffer with
  | nil => exact feed_cons hs rfl (takeByte_bodyEnd rfl rfl)
  | cons c bytes ih =>
    have hfirst := feed_cons (b := b) (rest := c :: bytes ++ rest) hs
      (u := receiving .body buffer (bytes.length + 2) s) rfl
      ((takeByte_body rfl (Nat.le_add_left 2 _)).trans (store_receiving ..))
    refine hfirst.trans ((ih c (buffer ++ [b])).trans ?_)
    rw [List.append_assoc, List.singleton_append]

/-- A good frame received in HUNT byte by byte is handed over in the happening of its second CHECK byte (R130). -/
theorem feed_frameBytes (hr : s.receiver = Receiver.hunting true) {body : List Byte} (hbody : body.length ≤ 248)
    (kind tag : Byte) :
    feed (frameBytes kind tag body) s = .next (arbitrate (admission kind tag (runFrame kind tag body) s)) := by
  have hon : s.receiver.on = true := by rw [hr]; rfl
  have hhunt : s.receiver.state = .hunt := by rw [hr]; rfl
  have hlen : (byte (body.length + 2)).toNat = body.length + 2 := byte_toNat (by omega)
  obtain ⟨x, y, hcheck⟩ : ∃ x y, crcBytes (frameCore kind tag body) = [x, y] := ⟨_, _, rfl⟩
  have hsync : takeByte 0x5A s = receiving .length [] 0 s := (takeByte_hunt hhunt).trans (if_pos rfl)
  have hlength : takeByte (byte (body.length + 2)) (receiving .length [] 0 s) =
      receiving .body [byte (body.length + 2)] (body.length + 2) s := by
    rw [takeByte_length rfl, if_pos (by omega), hlen]
    rfl
  have hfirst : takeByte x (receiving .check (frameCore kind tag body) 2 s) =
      receiving .check (frameCore kind tag body ++ [x]) 1 s := takeByte_check rfl rfl
  have hback : toHunt (receiving .check (frameCore kind tag body ++ [x]) 1 s) = s := by
    rw [toHunt, receiving, ← hr]
  rw [frameBytes, hcheck]
  refine (feed_cons hs hon hsync).trans ?_
  refine (feed_cons hs rfl hlength).trans ((feed_body hs kind (tag :: body) [x, y] _).trans ?_)
  refine (feed_cons hs rfl hfirst).trans ((feed_last rfl).trans (next_arbitrate_congr ?_))
  rw [takeByte_checkEnd rfl rfl]
  exact (judge_good hcheck).trans (congrArg _ hback)

end

end Sys2Proof.Machine

/-! PROOF. Good frames: what becomes of one that is not admitted (R133, R134), of one that no row of the table carries
(R142, R143), and the bytes of a command's frame. -/

namespace Sys2Proof.Machine

/-! ### Frames that are not admitted (R133, R134) -/

section
variable {s : State} {kind tag status : Byte}

/-- A frame that fails a check of admission is refused with the status of the first that fails (R133). -/
theorem admission_refused {effect : State → State}
    (h : (if tag = 0 then some 0x03 else if tag ∈ s.inFlight then some 0x02
      else if 8 ≤ s.inFlight.length then some 0x01 else none) = some status) :
    admission kind tag effect s =
      if s.refusals.length < 4 then makeReady ⟨.refusal, replyKind kind, tag, [status]⟩ s else overrun s := by
  unfold admission
  split_ifs at h with hzero hused hfull <;> cases h
  · rw [if_pos hzero]
    rfl
  · rw [if_neg hzero, if_pos (by simpa using hused)]
    rfl
  · rw [if_neg hzero, if_neg (by simpa using hused), if_pos (show Config.inFlightTags ≤ _ from hfull)]
    rfl

/-- The kind of a command's replies (12.2). -/
theorem replyKind_of_hostFrame {c : Instr} {body : List Byte} (h : c.hostFrame = some (kind, tag, body)) :
    replyKind kind = kind + 0x80 := by
  cases c <;> cases h <;> rfl

theorem body_of_hostFrame {c : Instr} {body : List Byte} (h : c.hostFrame = some (kind, tag, body)) :
    c.body = some body := by
  cases c <;> cases h <;> rfl

/-- The BODY of a well-formed command fits a frame (12.1). -/
theorem length_of_wellFormed {c : Instr} {body : List Byte} (h : c.hostFrame = some (kind, tag, body))
    (hwf : c.wellFormed = true) : body.length ≤ 248 := by
  have hfits : bodyFits body = true := by
    unfold Instr.wellFormed at hwf
    rw [body_of_hostFrame h] at hwf
    exact (Bool.and_eq_true_iff.1 hwf).1
  simpa [bodyFits] using hfits

theorem runFrame_of_commandOf {run : Byte → List Byte → State → State} (h : commandOf kind = some run)
    (tag : Byte) (body : List Byte) : runFrame kind tag body = run tag body := by
  funext u
  rw [runFrame, h]

/-- A KIND that names no command is answered BAD_KIND (R142). -/
theorem runFrame_of_no_command (h : commandOf kind = none) (tag : Byte) (body : List Byte) (s : State) :
    runFrame kind tag body s = deny tag kind .badKind s := by
  rw [runFrame, h]

theorem commandOf_eq_none (h : kind = 0 ∨ 0x19 ≤ kind.toNat) : commandOf kind = none := by
  have hcode : kind.toNat = 0 ∨ 0x19 ≤ kind.toNat := h.imp_left (congrArg BitVec.toNat)
  unfold commandOf
  split
  case h_25 => rfl
  all_goals omega

end

/-- Settles O6: a command's frame acts by admission, whose three checks are made in their order. -/
theorem admissionRefusals : Obligations.AdmissionRefusals := by
  intro c kind tag body hframe s
  obtain ⟨run, _, hexec⟩ := exec_eq_hostCommand hframe s
  rw [hexec]
  refine ⟨hostCommand_off, fun status hstatus hon => ?_⟩
  rw [hostCommand, if_pos hon, admission_refused (s := { s with receiver := Receiver.hunting true }) hstatus,
    replyKind_of_hostFrame hframe]
  rfl

/-- Settles O3: the bytes hand the frame over to the same admission as the command's row. -/
theorem frameBytesCarryOutCommand : Obligations.FrameBytesCarryOutCommand := by
  intro c kind tag body hframe hwf s hr hs
  obtain ⟨run, hkind, hexec⟩ := exec_eq_hostCommand hframe s
  have hsame : { s with receiver := Receiver.hunting true } = s := by rw [← hr]
  rw [feed_frameBytes hs hr (length_of_wellFormed hframe hwf), hexec, hostCommand, if_pos (by rw [hr]; rfl), hsame,
    runFrame_of_commandOf hkind]
  rfl

/-! ### Good frames of no row (R142, R143) -/

section
variable {x y : Byte}

theorem yesNoField_eq_none (h : 2 ≤ y.toNat) : yesNoField y = none := by
  have h0 : y ≠ 0 := by rintro rfl; simp at h
  have h1 : y ≠ 1 := by rintro rfl; simp at h
  rw [yesNoField, if_neg h0, if_neg h1]

variable {body : List Byte} {s : State}

theorem checkSetPollState_length (h : body.length ≠ 2) : checkSetPollState body s = .error .badLength := by
  unfold checkSetPollState
  split
  · exact absurd rfl h
  · rfl

theorem checkSetTargetState_length (h : body.length ≠ 2) : checkSetTargetState body s = .error .badLength := by
  unfold checkSetTargetState
  split
  · exact absurd rfl h
  · rfl

theorem checkSetAlert_length (h : body.length ≠ 6) : checkSetAlert body s = .error .badLength := by
  unfold checkSetAlert
  split
  · exact absurd rfl h
  · rfl

variable (hop : s.op ≠ .init) (hy : 2 ≤ y.toNat)
include hop hy

/-- An action byte that is no code (R27). -/
theorem checkSetPollState_action : checkSetPollState [x, y] s = .error .badValue := by
  simp only [checkSetPollState, OpState.legalAlways_of_ne_init hop, yesNoField_eq_none hy, if_true]
  cases indexField 48 x <;> rfl

/-- An action byte that is no code (R101). -/
theorem checkSetTargetState_action : checkSetTargetState [x, y] s = .error .badValue := by
  simp only [checkSetTargetState, OpState.legalAlways_of_ne_init hop, yesNoField_eq_none hy, if_true]
  cases indexField 32 x <;> rfl

/-- An Enabled byte that is no code (R88). -/
theorem checkSetAlert_enabled (a b c d : Byte) : checkSetAlert [x, y, a, b, c, d] s = .error .badValue := by
  simp only [checkSetAlert, OpState.legalAlways_of_ne_init hop, yesNoField_eq_none hy, if_true]
  cases indexField 8 x <;> rfl

end

/-- Settles O4: a good frame is handed over to admission; no command has its KIND, or a check of its command fails. -/
theorem otherGoodFramesAreAnswered : Obligations.OtherGoodFramesAreAnswered := by
  rintro kind tag body s hr hs hbody reply rfl
  rw [feed_frameBytes hs hr hbody]
  refine ⟨fun hadm hop => ?_, fun status hstatus => ?_⟩
  · obtain ⟨_, hzero, hnew, hroom⟩ := hadm
    have hsame : { s with inFlight := s.inFlight ++ [tag] } = admitted tag s := by rw [admitted, ← hr]
    rw [admission_admitted hzero hnew hroom, hsame]
    refine ⟨fun hkind => ?_, fun hlen => ?_, fun x y hy hkind hbytes => ?_, fun x y a b c d hy hkind hbytes => ?_⟩
    · rw [runFrame_of_no_command (commandOf_eq_none hkind)]
      rfl
    · rcases hlen with ⟨rfl | rfl, hlen⟩ | ⟨rfl, hlen⟩
      · rw [runFrame_of_commandOf rfl, runSetPollState, checkSetPollState_length hlen]
        rfl
      · rw [runFrame_of_commandOf rfl, runSetTargetState, checkSetTargetState_length hlen]
        rfl
      · rw [runFrame_of_commandOf rfl, runSetAlert, checkSetAlert_length hlen]
        rfl
    · subst hbytes
      rcases hkind with rfl | rfl
      · rw [runFrame_of_commandOf rfl, runSetPollState, checkSetPollState_action (s := admitted tag s) hop hy]
        rfl
      · rw [runFrame_of_commandOf rfl, runSetTargetState, checkSetTargetState_action (s := admitted tag s) hop hy]
        rfl
    · subst hbytes hkind
      rw [runFrame_of_commandOf rfl, runSetAlert, checkSetAlert_enabled (s := admitted tag s) hop hy]
      rfl
  · rw [admission_refused hstatus]
    rfl

end Sys2Proof.Machine

/-! PROOF. Characters and the level of HTX (R129), with the statement about the receiver and the transmit line. -/

namespace Sys2Proof.Machine

/-! ### Characters (R129) -/

/-- A byte has the data bits of its character, least significant bit first (R129). -/
theorem characterByte_getLsbD (c : Character) (i : Fin 8) : (characterByte c).getLsbD i.val = c.data.get i := by
  have hi : i.val < c.data.toList.length := by simp
  rw [characterByte, BitVec.getLsbD_setWidth, BitVec.getLsbD_ofBoolListLE, List.getD_eq_getElem _ _ hi]
  simp [Vector.get]

theorem characterLevels_start (b : Byte) : (characterLevels b)[0]? = some startLevel := rfl

theorem characterLevels_data (b : Byte) (i : Fin 8) : (characterLevels b)[1 + i.val]? = some (b.getLsbD i.val) := by
  rw [characterLevels, Nat.add_comm, List.getElem?_cons_succ, List.getElem?_append_left (by simp)]
  simp [dataLevels]

theorem characterLevels_stop (b : Byte) : (characterLevels b)[9]? = some stopLevel := by
  simp [characterLevels]

/-- Bit-time `10 n + k` of a frame falls in the character of its byte `n` (R129). -/
theorem flatMap_characterLevels_getElem? {bytes : List Byte} {n : Nat} {b : Byte} (h : bytes[n]? = some b) {k : Nat}
    (hk : k < 10) : (bytes.flatMap characterLevels)[10 * n + k]? = (characterLevels b)[k]? := by
  induction bytes generalizing n with
  | nil => simp at h
  | cons a bytes ih =>
    rw [List.flatMap_cons]
    cases n with
    | zero =>
      obtain rfl : a = b := by simpa using h
      rw [Nat.mul_zero, Nat.zero_add, List.getElem?_append_left (by simpa using hk)]
    | succ n =>
      have hrest : 10 * (n + 1) + k - 10 = 10 * n + k := by omega
      rw [List.getElem?_append_right (by rw [length_characterLevels]; omega), length_characterLevels, hrest]
      exact ih (by simpa using h)

section
variable {s : State} {frame : OutFrame} {n : Nat} {b : Byte}

/-- While a frame is sent, HTX has the levels of its characters one after the other (R129). -/
theorem State.htx_sending (h : s.transmitter = some frame) (hb : frame.bytes[n]? = some b) {k : Nat} {level : Bool}
    (hk : k < 10) (hlevel : (characterLevels b)[k]? = some level) : s.htx (10 * n + k) = level := by
  simp only [State.htx, h, List.getD_eq_getElem?_getD]
  rw [flatMap_characterLevels_getElem? hb hk, hlevel]
  rfl

end

/-! ### Errors of the receiver (R131) -/

section
variable (s : State)

theorem gapTimeout_running (hon : s.receiver.on = true) (h : s.receiver.gapRunning = true) :
    exec .gapTimeout s = .next (arbitrate (gapError (toHunt s))) := if_pos ⟨hon, h⟩

theorem gapTimeout_stopped (h : s.receiver.gapRunning = false) : exec .gapTimeout s = .next s :=
  if_neg (by simp [h])

end

/-- Settles O5: the receiver's states one by one, its errors, and the bit-times of a character. -/
theorem receiverTakesByte : Obligations.ReceiverTakesByte := by
  refine ⟨characterByte_getLsbD, ?_, fun s hon => ?_,
    fun s => ⟨fun frame hframe => ⟨fun n b hb => ?_, fun k => ?_⟩, ?_⟩⟩
  · rintro c b rfl s
    refine ⟨exec_receiveByte_discarded, fun hon hearly => ?_⟩
    rw [exec_receiveByte hon hearly]
    refine ⟨fun hst => ?_, fun hst => ?_, fun hst => ⟨fun hmore => ?_, fun hlast => ?_⟩,
      fun hst => ⟨fun hmore => ?_, fun core x hbuffer hlast hbad => ?_⟩⟩
    · rw [takeByte_hunt hst]
    · rw [takeByte_length hst]
      rfl
    · rw [takeByte_body hst hmore]
      rfl
    · rw [takeByte_bodyEnd hst hlast]
      rfl
    · rw [takeByte_check hst hmore]
      rfl
    · rw [takeByte_checkEnd hst hlast, hbuffer, judge_bad hbad]
      rfl
  · split
    · rename_i hrunning
      rw [gapTimeout_running s hon hrunning]
      rfl
    · rename_i hstopped
      exact gapTimeout_stopped s (by simpa using hstopped)
  · refine ⟨?_, fun i => ?_, ?_⟩
    · exact State.htx_sending hframe hb (k := 0) (by decide) (characterLevels_start b)
    · rw [Nat.add_assoc]
      exact State.htx_sending hframe hb (by omega) (characterLevels_data b i)
    · exact State.htx_sending hframe hb (by decide) (characterLevels_stop b)
  · exact State.htx_of_le hframe
  · exact fun hidle => State.htx_idle hidle

end Sys2Proof.Machine

/-! PROOF. The transmitter: the item that the arbiter takes (R136 to R139, R120, R126), the layouts of frames (12.1,
12.5) and the CHECK bit by bit (R158). -/

namespace Sys2Proof.Machine

/-! ### The head record is taken (R120) -/

theorem told_eq_ite (op : OpState) (l : Lane) : told op l = if op = .running then l.wake else l := by
  by_cases hop : op = .running
  · rw [if_pos hop, hop, told_running]
  · simp [told, hop]

/-- The head record leaves with its slot and its block, of which every lane is told (R43, R120). -/
theorem takeRecord_eq (r : Record) (rest : List Record) (s : State) :
    takeRecord r rest s =
      { s with records := rest
               polls := s.polls.map Poll.headTaken
               pool := { s.pool with free := s.pool.free + (if r.data.isSome then 1 else 0) }
               lanes := s.lanes.map (told s.op)
               credit := s.credit - 1
               sequence := s.sequence + 1
               transmitter := some ⟨.result, frameBytes 0xC0 0 (resultBody s.sequence r)⟩ } := by
  have hlanes : (takeRecord r rest s).lanes = s.lanes.map (told s.op) := by
    ext k
    rw [Table.get_map, told_eq_ite]
    exact takeRecord_lane r rest k s
  rw [takeRecord_frame, hlanes]

/-! ### Quantities of two bytes (R159) -/

theorem word_of_lt {n : Nat} (h : n < 256) : word n = [0, byte n] := by
  rw [word, Nat.div_eq_of_lt h]
  rfl

/-- The CHECK bytes are the CHECK as a quantity, high byte first (R158, R159). -/
theorem crcBytes_eq_word (bytes : List Byte) : crcBytes bytes = word (crc bytes).toNat := by
  have hlow (c : Word16) : c.extractLsb' 0 8 = BitVec.ofNat 8 c.toNat := by
    apply BitVec.eq_of_toNat_eq
    simp
  have hhigh (c : Word16) : c.extractLsb' 8 8 = BitVec.ofNat 8 (c.toNat / 256) := by
    apply BitVec.eq_of_toNat_eq
    simp [Nat.shiftRight_eq_div_pow]
  rw [crcBytes, hlow, hhigh]
  rfl

/-! ### The CHECK bit by bit (R158) -/

/-- One bit of the message enters the CHECK: the register shifts, and the generator polynomial is added where the bit
that leaves differs from the bit that enters (R158). -/
def crcStep (c : Word16) (bit : Bool) : Word16 := if c.msb = bit then c <<< 1 else (c <<< 1) ^^^ 0x1021

/-- What has been added to the register ahead of its turn shifts along, its top bit entering. -/
theorem crcBit_xor (c x : Word16) : crcBit (c ^^^ x) = crcStep c x.msb ^^^ (x <<< 1) := by
  rw [crcBit, crcStep, BitVec.msb_xor, BitVec.shiftLeft_xor_distrib]
  by_cases hsame : c.msb = x.msb
  · rw [if_pos hsame, hsame, Bool.xor_self, if_neg Bool.false_ne_true]
  · have hdiffer : (c.msb ^^ x.msb) = true := by simpa using hsame
    rw [if_neg hsame, if_pos hdiffer]
    ac_rfl

/-- `n` bits added ahead enter one after the other, from the top. -/
theorem crcBit_iterate (c x : Word16) (n : Nat) :
    crcBit^[n] (c ^^^ x) = (List.range n).foldl (fun (c : Word16) k => crcStep c (x <<< k).msb) c ^^^ (x <<< n) := by
  induction n with
  | zero => simp
  | succ n ih =>
    rw [Function.iterate_succ_apply', ih, crcBit_xor, ← BitVec.shiftLeft_add, List.range_succ, List.foldl_append]
    rfl

theorem msb_byte_shiftLeft (b : Byte) {k : Nat} (hk : k < 8) : ((b ++ 0#8) <<< k).msb = b.getLsbD (7 - k) := by
  have hbit : 15 - k - 8 = 7 - k := by omega
  rw [BitVec.msb_eq_getLsbD_last, BitVec.getLsbD_shiftLeft, BitVec.getLsbD_append, if_neg (by omega), hbit]
  simp [show k ≤ 15 by omega]

/-- The bits of a byte enter one after the other, most significant bit first (R158). -/
theorem crcByte_eq_foldl (c : Word16) (b : Byte) :
    crcByte c b = [7, 6, 5, 4, 3, 2, 1, 0].foldl (fun (c : Word16) (k : Nat) => crcStep c (b.getLsbD k)) c := by
  have hgone : (b ++ 0#8) <<< 8 = 0#16 := by
    ext i hi
    rw [BitVec.getElem_shiftLeft, BitVec.getElem_append]
    simp [show i - 8 < 8 by omega]
  calc crcByte c b
      = crcBit^[8] (c ^^^ (b ++ 0#8)) := rfl
    _ = (List.range 8).foldl (fun (c : Word16) k => crcStep c ((b ++ 0#8) <<< k).msb) c := by
        rw [crcBit_iterate, hgone, BitVec.xor_zero]
    _ = [7, 6, 5, 4, 3, 2, 1, 0].foldl (fun (c : Word16) (k : Nat) => crcStep c (b.getLsbD k)) c := by
        rw [show [7, 6, 5, 4, 3, 2, 1, 0] = (List.range 8).map (7 - ·) from rfl, List.foldl_map]
        exact List.foldl_ext _ _ c fun _ k hk => by rw [msb_byte_shiftLeft b (List.mem_range.1 hk)]

theorem crc_append (bytes : List Byte) (b : Byte) : crc (bytes ++ [b]) = crcByte (crc bytes) b := by
  rw [crc, List.foldl_append]
  rfl

/-- The CHECK of 31h to 39h, the digits 1 to 9 (R158). -/
theorem crc_checkValue : crc [0x31, 0x32, 0x33, 0x34, 0x35, 0x36, 0x37, 0x38, 0x39] = 0x29B1 := by decide +kernel

/-! ### The layouts of frames (12.1, 12.5) -/

section
variable (seq c : Word16) (t : Fin 32) (st : RecordStatus) (d : Option (List Byte)) (g : Byte) (n : Nat)

theorem resultBody_poll (p : Fin 48) :
    resultBody seq ⟨.poll p g n, t, c, st, d⟩ =
      word seq.toNat ++ [0x00, 0, byte p.val, g, 0, byte t.val] ++ word c.toNat ++ [st.code, 0, byte n, 0] ++
        (byte (d.getD []).length :: d.getD []) := by
  have hp : word p.val = [0, byte p.val] := word_of_lt (by omega)
  simp only [resultBody, RecordSource.number, hp]
  rfl

theorem resultBody_alert (a : Fin 8) :
    resultBody seq ⟨.alert a g n, t, c, st, d⟩ =
      word seq.toNat ++ [0x01, 0, byte a.val, g, 0, byte t.val] ++ word c.toNat ++ [st.code, 0, 0, byte n] ++
        (byte (d.getD []).length :: d.getD []) := by
  have ha : word a.val = [0, byte a.val] := word_of_lt (by omega)
  simp only [resultBody, RecordSource.number, ha]
  rfl

theorem resultBody_job (j : Nat) :
    resultBody seq ⟨.job j g n, t, c, st, d⟩ =
      word seq.toNat ++ [0x02] ++ word j ++ [0, g, byte t.val] ++ word c.toNat ++ [st.code, byte n, 0, 0] ++
        (byte (d.getD []).length :: d.getD []) := rfl

end

/-! ### The end of a transmission (R137) -/

section
variable {s : State} {frame : OutFrame}

/-- The end of a frame that is neither the ANNOUNCE nor the reply of a RESET frees the transmitter, and the arbiter
looks (R136, R137). -/
theorem exec_transmitEnd (h : s.transmitter = some frame) (hannounce : frame.content ≠ .announce)
    (hreset : frame.content ≠ .reply .resetCommand) :
    exec .transmitEnd s = .next (arbitrate { s with transmitter := none }) := by
  have hsent : frameSent frame.content { s with transmitter := none } = { s with transmitter := none } := by
    unfold frameSent
    split
    · contradiction
    · contradiction
    all_goals rfl
  simp only [exec, execTransmitEnd, h, hsent]
  rfl

end

/-- Settles O8: the item taken by the arbiter's order, the layouts field by field, and the CHECK by its bits. -/
theorem transmitEndTakesNextItem : Obligations.TransmitEndTakesNextItem := by
  refine ⟨fun s frame hframe hannounce hreset => ?_, fun s frame hframe => arbitrate_busy hframe, ?_, ?_, rfl, ?_, ?_⟩
  · rw [exec_transmitEnd hframe hannounce hreset]
    refine ⟨fun ha => congrArg Host.Outcome.next (arbitrate_announce rfl ha),
      fun ha => ⟨fun r rest hr => ?_, fun hr => ⟨?_, fun hc => ⟨fun n rest hn => ?_, fun r rest hq hn => ?_⟩⟩⟩⟩
    · exact congrArg Host.Outcome.next (arbitrate_reply rfl ha hr)
    · rintro (hc | ⟨hn, hq⟩)
      · exact congrArg Host.Outcome.next (arbitrate_noCredit rfl ha hr hc)
      · exact congrArg Host.Outcome.next (arbitrate_nothing rfl ha hr hn hq)
    · exact congrArg Host.Outcome.next (arbitrate_notice rfl ha hr hc hn)
    · rw [arbitrate_record (s := { s with transmitter := none }) rfl ha hr hc hn hq, takeRecord_eq]
      rfl
  · rintro two rfl
    refine ⟨?_, fun seq lost k => ⟨?_, ?_, ?_, ?_⟩, fun _ => rfl, ?_⟩
    · rintro seq t c st d tail rfl
      exact ⟨fun p g n => resultBody_poll .., fun a g n => resultBody_alert .., fun j tag n => resultBody_job ..⟩
    · exact fun _ _ _ => rfl
    · exact fun _ _ _ => rfl
    · exact fun _ _ _ => rfl
    · exact fun _ => rfl
    · rintro kind tag body core rfl
      exact congrArg (fun check => 0x5A :: (frameCore kind tag body ++ check)) (crcBytes_eq_word _)
  · decide
  · intro bytes b
    rw [crc_append, crcByte_eq_foldl]
    rfl
  · exact crc_checkValue

end Sys2Proof.Machine

/-! PROOF. GRANT: its checks, the credit it leaves, and its reply where the transmitter is free (R136, R140). -/

namespace Sys2Proof.Machine

theorem checkGrant_length {body : List Byte} (h : body.length ≠ 1) (s : State) :
    checkGrant body s = .error .badLength := by
  unfold checkGrant
  split
  · exact absurd rfl h
  · rfl

/-- The Amount is at least 1 (R140). -/
theorem checkGrant_amount {s : State} (hop : s.op ≠ .init) (amount : Byte) :
    checkGrant [amount] s = if amount.toNat < 1 then .error .badValue else .ok amount.toNat := by
  simp only [checkGrant, OpState.legalAlways_of_ne_init hop, rangeField, if_true]
  by_cases hlow : amount.toNat < 1
  · rw [if_neg (by omega), if_pos hlow]
  · rw [if_pos (by omega), if_neg hlow]

/-- Settles O49: the two checks, then the reply as the only item that the arbiter can take. -/
theorem grantRaisesCredit : Obligations.GrantRaisesCredit := by
  intro s tag hadm hop
  have ⟨_, _, hnew, _⟩ := hadm
  refine ⟨fun body hlen => ?_, fun amount u hu => ⟨?_, fun hs hfree => ?_⟩⟩
  · refine (hostCommand_admitted hadm).trans (next_arbitrate_congr ?_)
    rw [runGrant, checkGrant_length hlen, carryOut_error]
    rfl
  · refine (hostCommand_admitted hadm).trans (next_arbitrate_congr ?_)
    rw [runGrant, checkGrant_amount (s := admitted tag s) hop, carryOut_check, carryOut_ok, hu]
    rfl
  · obtain ⟨ha, hready, _⟩ := ((settled_iff s).1 hs).resolve_left (not_not.2 hfree)
    have hreply : u.ready = [⟨.command, 0x98, tag, 0x00 :: word (min (s.credit + amount.toNat) 4095)⟩] := by
      rw [hu, replied, admitted, hready]
      rfl
    have hleft : (s.inFlight ++ [tag]).erase tag = s.inFlight := by
      rw [List.erase_append_right _ hnew, List.erase_cons_head, List.append_nil]
    rw [arbitrate_reply (by rw [hu]; exact hfree) (by rw [hu]; exact ha) hreply, hu]
    simp only [takeReply, replied, admitted, hleft, hready]
    rfl

end Sys2Proof.Machine

/-! PROOF. The first two checks of every command of the host (R143): the length of its BODY, then the operating
state. -/

namespace Sys2Proof.Machine

/-! ### Length, then operating state (R143 steps 1 and 2) -/

/-- The first two checks of a command: a BODY of a wrong length, then an operating state in which the command is not
legal (R143). -/
structure LengthThenState {α : Type} (lengthOk legal : Bool) (checked : Checked α) : Prop where
  length : lengthOk = false → checked = .error .badLength
  state : lengthOk = true → legal = false → checked = .error .wrongState

namespace LengthThenState
variable {α β : Type} {lengthOk legal : Bool}

/-- The BODY has the right length: the operating state is checked next. -/
theorem of_length {later : Checked α} (h : lengthOk = true) :
    LengthThenState lengthOk legal (if legal then later else .error .wrongState) where
  length hfalse := by simp [h] at hfalse
  state _ hlegal := by simp [hlegal]

/-- The BODY has a wrong length. -/
theorem of_wrong_length (h : lengthOk ≠ true) : LengthThenState lengthOk legal (.error .badLength : Checked α) where
  length _ := rfl
  state htrue := absurd htrue h

/-- Further checks follow on the first two. -/
theorem followed {checked : Checked α} {later : Checked β} (h : LengthThenState lengthOk legal checked)
    (herror : ∀ e, checked = .error e → later = .error e) : LengthThenState lengthOk legal later where
  length hlen := herror _ (h.length hlen)
  state hlen hlegal := herror _ (h.state hlen hlegal)

/-- An admitted command that fails one of the two checks is answered with the status of the first, and nothing else
changes (R143). -/
theorem refusals {checked : Checked α} {kind tag : Byte} {s : State} (h : LengthThenState lengthOk legal checked)
    (hadm : Admits s tag) {effect : α → State → State} {run : State → State}
    (hrun : run (admitted tag s) = carryOut tag kind checked effect (admitted tag s)) :
    (lengthOk = false → hostCommand kind tag run s = .next (arbitrate (denied tag (replyKind kind) 0x05 s))) ∧
      (lengthOk = true → legal = false →
        hostCommand kind tag run s = .next (arbitrate (denied tag (replyKind kind) 0x07 s))) := by
  rw [hostCommand_admitted hadm, hrun]
  refine ⟨fun hlen => ?_, fun hlen hlegal => ?_⟩
  · rw [h.length hlen, carryOut_error]
    rfl
  · rw [h.state hlen hlegal, carryOut_error]
    rfl

end LengthThenState

/-! ### The two checks, command by command (12.4, R144) -/

/-- A list of `n` entries is one written out entry by entry. -/
theorem eq_ofFn_of_length {α : Type} {l : List α} {n : Nat} (h : (l.length == n) = true) :
    l = List.ofFn fun i : Fin n => l[i]'(by rw [beq_iff_eq.1 h]; exact i.isLt) := by
  obtain rfl := beq_iff_eq.1 h
  exact List.ofFn_getElem.symm

section
variable (body : List Byte) (s : State)

theorem checkPing_lengthThenState :
    LengthThenState (decide (body.length ≤ 247)) s.op.legalAlways (checkPing body s) := by
  unfold checkPing
  split
  · exact .of_wrong_length (by simpa)
  · exact .of_length (by simp; omega)

theorem checkEmpty_lengthThenState (legal : OpState → Bool) :
    LengthThenState (body.length == 0) (legal s.op) (checkEmpty legal body s) := by
  unfold checkEmpty
  split
  · exact .of_wrong_length (by rwa [ne_eq, beq_iff_eq])
  · exact .of_length (beq_iff_eq.2 (not_not.1 ‹_›))

theorem checkIndex_lengthThenState (n : Nat) :
    LengthThenState (body.length == 1) s.op.legalAlways (checkIndex n body s) := by
  unfold checkIndex
  split
  · exact .of_length rfl
  · rename_i hne
    exact .of_wrong_length fun hlen => hne _ (eq_ofFn_of_length hlen)

theorem checkClearCounters_lengthThenState :
    LengthThenState (body.length == 1) s.op.legalAlways (checkClearCounters body s) := by
  unfold checkClearCounters
  split
  · exact .of_length rfl
  · rename_i hne
    exact .of_wrong_length fun hlen => hne _ (eq_ofFn_of_length hlen)

theorem checkSetCycle_lengthThenState :
    LengthThenState (body.length == 1) s.op.legalInStandby (checkSetCycle body s) := by
  unfold checkSetCycle
  split
  · exact .of_length rfl
  · rename_i hne
    exact .of_wrong_length fun hlen => hne _ (eq_ofFn_of_length hlen)

theorem checkDefinePoll_lengthThenState :
    LengthThenState (body.length == 13) s.op.legalAlways (checkDefinePoll body s) := by
  unfold checkDefinePoll
  split
  · exact .of_length rfl
  · rename_i hne
    exact .of_wrong_length fun hlen => hne _ _ _ _ _ _ _ _ _ _ _ _ _ (eq_ofFn_of_length hlen)

theorem checkDeletePoll_lengthThenState :
    LengthThenState (body.length == 1) s.op.legalAlways (checkDeletePoll body s) :=
  (checkIndex_lengthThenState body s 48).followed fun _ h => by rw [checkDeletePoll, h]

theorem checkSetPollState_lengthThenState :
    LengthThenState (body.length == 2) s.op.legalAlways (checkSetPollState body s) := by
  unfold checkSetPollState
  split
  · exact .of_length rfl
  · rename_i hne
    exact .of_wrong_length fun hlen => hne _ _ (eq_ofFn_of_length hlen)

theorem checkSetLane_lengthThenState :
    LengthThenState (body.length == 6) s.op.legalInStandby (checkSetLane body s) := by
  unfold checkSetLane
  split
  · exact .of_length rfl
  · rename_i hne
    exact .of_wrong_length fun hlen => hne _ _ _ _ _ _ (eq_ofFn_of_length hlen)

theorem checkLaneReset_lengthThenState :
    LengthThenState (body.length == 1) s.op.legalAlways (checkLaneReset body s) :=
  (checkIndex_lengthThenState body s 4).followed fun _ h => by rw [checkLaneReset, h]

theorem checkBindTarget_lengthThenState :
    LengthThenState (body.length == 7) s.op.legalAlways (checkBindTarget body s) := by
  unfold checkBindTarget
  split
  · exact .of_length rfl
  · rename_i hne
    exact .of_wrong_length fun hlen => hne _ _ _ _ _ _ _ (eq_ofFn_of_length hlen)

theorem checkUnbindTarget_lengthThenState :
    LengthThenState (body.length == 1) s.op.legalAlways (checkUnbindTarget body s) :=
  (checkIndex_lengthThenState body s 32).followed fun _ h => by rw [checkUnbindTarget, h]

theorem checkSetTargetState_lengthThenState :
    LengthThenState (body.length == 2) s.op.legalAlways (checkSetTargetState body s) := by
  unfold checkSetTargetState
  split
  · exact .of_length rfl
  · rename_i hne
    exact .of_wrong_length fun hlen => hne _ _ (eq_ofFn_of_length hlen)

/-- The BODY of a SUBMIT is 5 bytes and its data (R67 check 1). -/
theorem lengthAllowed_submit (t kind r1 r0 n : Byte) (data : List Byte) :
    lengthAllowed 0x13 (t :: kind :: r1 :: r0 :: n :: data) = submitLengthOk kind n data := by
  rw [Bool.eq_iff_iff, submitLengthOk_iff]
  simp [lengthAllowed]
  omega

theorem checkSubmit_lengthThenState :
    LengthThenState (lengthAllowed 0x13 body) s.op.legalInRunning (checkSubmit body s) := by
  unfold checkSubmit
  split
  · rw [lengthAllowed_submit]
    split
    · exact .of_length ‹_›
    · exact .of_wrong_length ‹_›
  · rename_i hne
    refine .of_wrong_length fun h => ?_
    have hlong : 5 ≤ body.length := of_decide_eq_true (Bool.and_eq_true_iff.1 h).1
    have hfirst := eq_ofFn_of_length (l := body.take 5) (n := 5) (by simpa using hlong)
    exact hne _ _ _ _ _ (body.drop 5) ((List.take_append_drop 5 body).symm.trans (congrArg (· ++ body.drop 5) hfirst))

theorem checkCancel_lengthThenState :
    LengthThenState (body.length == 2) s.op.legalAlways (checkCancel body s) := by
  unfold checkCancel
  split
  · exact .of_length rfl
  · rename_i hne
    exact .of_wrong_length fun hlen => hne _ _ (eq_ofFn_of_length hlen)

theorem checkFlushLane_lengthThenState :
    LengthThenState (body.length == 1) s.op.legalAlways (checkFlushLane body s) :=
  (checkIndex_lengthThenState body s 4).followed fun _ h => by rw [checkFlushLane, h]

theorem checkSetAlert_lengthThenState :
    LengthThenState (body.length == 6) s.op.legalAlways (checkSetAlert body s) := by
  unfold checkSetAlert
  split
  · exact .of_length rfl
  · rename_i hne
    exact .of_wrong_length fun hlen => hne _ _ _ _ _ _ (eq_ofFn_of_length hlen)

theorem checkGrant_lengthThenState :
    LengthThenState (body.length == 1) s.op.legalAlways (checkGrant body s) := by
  unfold checkGrant
  split
  · exact .of_length rfl
  · rename_i hne
    exact .of_wrong_length fun hlen => hne _ (eq_ofFn_of_length hlen)

end

/-- Settles O7, command by command: each makes the two checks first. -/
theorem lengthThenStateRefusals : Obligations.LengthThenStateRefusals := by
  intro c kind tag body hframe s hadm _
  cases c <;> cases hframe
  case ping => exact (checkPing_lengthThenState ..).refusals hadm rfl
  case getStatus | reset | start | stop => exact (checkEmpty_lengthThenState ..).refusals hadm rfl
  case clearCounters => exact (checkClearCounters_lengthThenState ..).refusals hadm rfl
  case setCycle => exact (checkSetCycle_lengthThenState ..).refusals hadm rfl
  case definePoll => exact (checkDefinePoll_lengthThenState ..).refusals hadm rfl
  case deletePoll => exact (checkDeletePoll_lengthThenState ..).refusals hadm rfl
  case setPollStatePause | setPollStateResume => exact (checkSetPollState_lengthThenState ..).refusals hadm rfl
  case readPoll | readLane | readTarget | readAlert => exact (checkIndex_lengthThenState ..).refusals hadm rfl
  case setLane => exact (checkSetLane_lengthThenState ..).refusals hadm rfl
  case laneReset => exact (checkLaneReset_lengthThenState ..).refusals hadm rfl
  case bindTarget => exact (checkBindTarget_lengthThenState ..).refusals hadm rfl
  case unbindTarget => exact (checkUnbindTarget_lengthThenState ..).refusals hadm rfl
  case setTargetStateRevive | setTargetStateQuarantine =>
    exact (checkSetTargetState_lengthThenState ..).refusals hadm rfl
  case submit => exact (checkSubmit_lengthThenState ..).refusals hadm rfl
  case cancel => exact (checkCancel_lengthThenState ..).refusals hadm rfl
  case flushLane => exact (checkFlushLane_lengthThenState ..).refusals hadm rfl
  case setAlertEnable | setAlertDisable => exact (checkSetAlert_lengthThenState ..).refusals hadm rfl
  case grant => exact (checkGrant_lengthThenState ..).refusals hadm rfl

end Sys2Proof.Machine

/-! PROOF. PING, GET_STATUS and CLEAR_COUNTERS (R147 to R149), and the reply that is taken at once (R136). -/

namespace Sys2Proof.Machine

/-! ### PING (R147) -/

theorem checkPing_of_le {body : List Byte} (h : body.length ≤ 247) {s : State} (hop : s.op ≠ .init) :
    checkPing body s = .ok body := by
  rw [checkPing, if_neg (Nat.not_lt.2 h), if_pos (OpState.legalAlways_of_ne_init hop)]

/-- The reply to a command is the only item that the arbiter can take of a settled part with a free transmitter, and
its taking leaves of the command nothing but the frame (R136). -/
theorem arbitrate_replied {s : State} {tag : Byte} (hadm : Admits s tag) (hs : Settled s) (hfree : s.transmitter = none)
    (kind : Byte) (body : List Byte) :
    arbitrate (replied tag kind body (admitted tag s)) =
      { s with receiver := Receiver.hunting true
               transmitter := some ⟨.reply .command, frameBytes kind tag body⟩ } := by
  obtain ⟨_, _, hnew, _⟩ := hadm
  obtain ⟨hannounce, hready, _⟩ := ((settled_iff s).1 hs).resolve_left (not_not.2 hfree)
  have hreply : (replied tag kind body (admitted tag s)).ready = [⟨.command, kind, tag, body⟩] := by
    rw [replied, admitted, hready]
    rfl
  have hleft : (s.inFlight ++ [tag]).erase tag = s.inFlight := by
    rw [List.erase_append_right _ hnew, List.erase_cons_head, List.append_nil]
  rw [arbitrate_reply (s := replied tag kind body (admitted tag s)) hfree hannounce hreply]
  simp only [takeReply, replied, admitted, hleft, ← hready]
  rfl

/-- Settles O46: the check of R147, and the reply as the only item that the arbiter can take. -/
theorem pingEchoesBody : Obligations.PingEchoesBody := by
  intro s tag body hadm hop
  refine ⟨fun hlong => ?_, fun hfits => ⟨?_, fun hs hfree => arbitrate_replied hadm hs hfree 0x81 (0x00 :: body)⟩⟩
  · exact ((checkPing_lengthThenState ..).refusals hadm rfl).1 (by simp [hlong])
  · refine (hostCommand_admitted hadm).trans (next_arbitrate_congr ?_)
    rw [runPing, checkPing_of_le (s := admitted tag s) hfits hop, carryOut_ok, answer_eq_replied]
    rfl

/-! ### GET_STATUS (R148) -/

theorem reservations_eq (s : State) :
    s.reservations = (List.finRange 4).countP fun i => (s.lane i).reservation != .none := by
  rw [State.reservations, State.lanes_toList, List.countP_map]
  rfl

/-- Settles O47: the fields of the reply in the order of R148, the command's own tag being in flight. -/
theorem getStatusReportsPart : Obligations.GetStatusReportsPart := by
  intro s tag hadm hop
  refine (hostCommand_admitted hadm).trans (next_arbitrate_congr ?_)
  have hlegal : checkEmpty OpState.legalAlways [] (admitted tag s) = .ok () :=
    if_pos (OpState.legalAlways_of_ne_init hop)
  have hstates : (admitted tag s).lanes.toList.map (fun l => l.state.code) =
      [(s.lane 0).state.code, (s.lane 1).state.code, (s.lane 2).state.code, (s.lane 3).state.code] := by
    rw [State.lanes_toList]
    rfl
  have hinFlight : (admitted tag s).inFlight.length = s.inFlight.length + 1 := List.length_append
  rw [runGetStatus, hlegal, carryOut_ok, answer_eq_replied, statusFields, hstates, hinFlight, reservations_eq]
  simp only [errorFields, List.append_assoc]
  rfl

/-! ### CLEAR_COUNTERS (R149) -/

theorem code_of_classField {b : Byte} {c : CounterClass} (h : classField b = some c) : c.code = b := by
  unfold classField at h
  split_ifs at h <;> cases h <;> exact Eq.symm ‹_›

theorem classField_eq_none {b : Byte} : classField b = none ↔ 7 ≤ b.toNat := by
  unfold classField
  split_ifs <;> simp <;> bv_omega

theorem checkClearCounters_class {s : State} (hop : s.op ≠ .init) (b : Byte) :
    checkClearCounters [b] s = (classField b).elim (.error .badValue) .ok := by
  simp only [checkClearCounters, OpState.legalAlways_of_ne_init hop, if_true]
  cases classField b <;> rfl

/-- The blocks whose counters a class names are cleared, and no other field changes (R149). -/
theorem clearClass_eq (c : CounterClass) (s : State) :
    clearClass c s =
      { s with
          targets := if c.code = 0x00 ∨ c.code = 0x01 then s.targets.map fun t => { t with counts := .zero }
            else s.targets
          polls := if c.code = 0x00 ∨ c.code = 0x02 then s.polls.map fun p => { p with counts := .zero } else s.polls
          lanes := if c.code = 0x00 ∨ c.code = 0x03 then s.lanes.map fun l => { l with counts := .zero } else s.lanes
          lines := if c.code = 0x00 ∨ c.code = 0x04 then s.lines.map fun l => { l with triggers := 0 } else s.lines
          pool := if c.code = 0x00 ∨ c.code = 0x05 then ⟨s.pool.free, s.pool.free⟩ else s.pool
          errors := if c.code = 0x00 ∨ c.code = 0x06 then .zero else s.errors } := by
  cases c <;> simp [CounterClass.code, clearClass, clearTargets, clearPolls, clearLanes, clearAlerts, clearResult,
    clearHost]

/-- Settles O48: the length, the Class, and the counters that each class names. -/
theorem clearCountersByClass : Obligations.ClearCountersByClass := by
  intro s tag hadm hop
  refine ⟨fun body hlen => ?_, fun b => ?_⟩
  · exact ((checkClearCounters_lengthThenState ..).refusals hadm rfl).1 (beq_eq_false_iff_ne.2 hlen)
  · refine (hostCommand_admitted hadm).trans (next_arbitrate_congr ?_)
    rw [runClearCounters, checkClearCounters_class (s := admitted tag s) hop]
    cases hclass : classField b with
    | none =>
      rw [if_pos (classField_eq_none.1 hclass)]
      exact carryOut_error ..
    | some c =>
      have hlow : ¬ 7 ≤ b.toNat := fun h => by simp [classField_eq_none.2 h] at hclass
      obtain rfl := code_of_classField hclass
      rw [if_neg hlow, Option.elim_some, carryOut_ok, answer_eq_replied, clearClass_eq]
      rfl

end Sys2Proof.Machine

/-! PROOF. The queue of waiting commands: no command and no event touches it, and each answers a next state. -/

namespace Sys2Proof.Machine

/-! ### The shared operations -/

section
variable (s : State)

@[simp] theorem pending_afterChoice : s.afterChoice.pending = s.pending := by rw [afterChoice_frame]

@[simp] theorem pending_wakeLane (i : Fin 4) : (wakeLane i s).pending = s.pending := by rw [wakeLane_frame]

@[simp] theorem pending_post (b : NoticeBody) : (post b s).pending = s.pending := by rw [post_frame]

@[simp] theorem pending_makeReady (r : Reply) : (makeReady r s).pending = s.pending := rfl

@[simp] theorem pending_answer (tag kind : Byte) (fields : List Byte) :
    (answer tag kind fields s).pending = s.pending := rfl

@[simp] theorem pending_finishDrain (others : List Reply) : (finishDrain others s).pending = s.pending := by
  rw [finishDrain_frame]

@[simp] theorem pending_arbitrate : (arbitrate s).pending = s.pending := by rw [arbitrate_frame]

@[simp] theorem pending_hostError (count : HostErrors → HostErrors) (one : HostErrors) :
    (hostError count one s).pending = s.pending := by rw [hostError_frame]

/-! ### Targets, lines and transactions -/

@[simp] theorem pending_changeTarget (t : Fin 32) (x : Target) : (changeTarget t x s).pending = s.pending := by
  rw [changeTarget_frame]

@[simp] theorem pending_removeProbe (t : Fin 32) : (removeProbe t s).pending = s.pending := by rw [removeProbe_frame]

theorem pending_reviveTarget (t : Fin 32) : (reviveTarget t s).pending = s.pending := by
  unfold reviveTarget
  dsimp only
  split <;> simp

theorem pending_quarantineTarget (t : Fin 32) : (quarantineTarget t s).pending = s.pending := by
  unfold quarantineTarget
  dsimp only
  split
  · rfl
  · simp
  · simp
  · rw [pending_removeProbe]
    split <;> rfl

@[simp] theorem pending_trigger (l : Fin 8) : (trigger l s).pending = s.pending := by rw [trigger_frame]

theorem pending_takeLevel (l : Fin 8) : (takeLevel l s).pending = s.pending := by
  unfold takeLevel activeEdge
  dsimp only
  split_ifs <;> simp

theorem pending_enableLine (q : AlertRequest) : (enableLine q s).pending = s.pending := by
  unfold enableLine levelTrigger
  split <;> simp

theorem pending_disableLine (l : Fin 8) : (disableLine l s).pending = s.pending := by
  unfold disableLine removeAlertRead
  dsimp only
  split <;> simp

theorem pending_evaluateLines (picks : List Nat) : (evaluateLines picks s).pending = s.pending :=
  foldl_keeps (P := fun u => u.pending = s.pending) (fun u l h => (pending_trigger u l).trans h) _ _ rfl

@[simp] theorem pending_endTransaction (i : Fin 4) (f : Final) : (endTransaction i f s).pending = s.pending := by
  rw [endTransaction_frame]

theorem pending_recoveredIdle (i : Fin 4) : (recoveredIdle i s).pending = s.pending := by
  unfold recoveredIdle
  dsimp only
  split <;> simp

theorem pending_faultLane (i : Fin 4) (cause : FaultCause) (posted : LaneCause) :
    (faultLane i cause posted s).pending = s.pending := pending_post ..

theorem pending_abandonLane (i : Fin 4) : (abandonLane i s).pending = s.pending := by
  unfold abandonLane
  split <;> simp

theorem pending_startCycle (c : Word16) : (startCycle c s).pending = s.pending := by rw [startCycle_frame]

theorem pending_start (tag : Byte) : (start tag s).pending = s.pending := by
  rw [start, pending_answer, pending_startCycle]

theorem pending_stop (tag : Byte) : (stop tag s).pending = s.pending := by rw [stop, pending_finishDrain]

/-! ### Jobs and polls -/

@[simp] theorem pending_endQueuedJob (j : Job) (status : RecordStatus) :
    (endQueuedJob j status s).pending = s.pending := by rw [endQueuedJob_frame]

theorem pending_cancelJob (i : Fin 4) (number : Nat) : (cancelJob i number s).pending = s.pending := by
  unfold cancelJob
  split <;> simp

@[simp] theorem pending_flushJobs (i : Fin 4) : (flushJobs i s).pending = s.pending :=
  foldl_keeps (P := fun u => u.pending = s.pending) (fun u j h => (pending_endQueuedJob u j .cancelled).trans h) _ _ rfl

theorem pending_drainHead (i : Fin 4) (j : Job) (rest : List Job) : (drainHead i j rest s).pending = s.pending :=
  pending_endQueuedJob ..

@[simp] theorem pending_unlistPoll (p : Fin 48) : (unlistPoll p s).pending = s.pending := by rw [unlistPoll_frame]

/-- The definition of an entry that is replaced ends (R24 to R26). -/
theorem pending_redefine (p : Fin 48) (x : Poll) :
    (unlistPoll p (markDefinitionEnd p (s.setPoll p x))).pending = s.pending :=
  pending_unlistPoll (markDefinitionEnd p (s.setPoll p x)) p

theorem pending_pausePoll (p : Fin 48) : (pausePoll p s).pending = s.pending :=
  pending_unlistPoll (s.setPoll p { s.poll p with state := .paused }) p

theorem pending_clearClass (c : CounterClass) : (clearClass c s).pending = s.pending := by rw [clearClass_eq]

/-! ### Looking for work (R42 to R47) -/

variable (i : Fin 4)

theorem pending_startTransaction (x : Transaction) : (startTransaction i x s).pending = s.pending := by
  unfold startTransaction
  dsimp only
  split <;> rfl

variable {s} in
theorem pending_examineHead {x : Transaction} {close start : State → State} (hclose : (close s).pending = s.pending)
    (hstart : (start s).pending = s.pending) : (examineHead i x close start s).state.pending = s.pending := by
  unfold examineHead
  split
  · exact hclose
  · split
    · exact (pending_startTransaction ..).trans hstart
    · rfl

theorem pending_lookProbe : (lookProbe i s).state.pending = s.pending := by
  unfold lookProbe
  split
  · exact pending_examineHead i rfl rfl
  · rfl

theorem pending_lookAlert : (lookAlert i s).state.pending = s.pending := by
  unfold lookAlert
  split
  · dsimp only
    split
    · split
      · rw [Look.state, settleAlert_frame]
        rfl
      · rfl
    · exact pending_examineHead i rfl rfl
  · rfl

theorem pending_skipQuarantined (ps : List (Fin 48)) : (skipQuarantined i ps s).pending = s.pending := by
  induction ps generalizing s with
  | nil => rfl
  | cons p rest ih =>
    unfold skipQuarantined
    split
    · exact (ih _).trans (pending_post ..)
    · rfl

theorem pending_lookPoll : (lookPoll i s).state.pending = s.pending := by
  unfold lookPoll
  split
  · exact pending_examineHead i rfl rfl
  · rfl

theorem pending_lookSchedule : (lookSchedule i s).state.pending = s.pending := by
  unfold lookSchedule
  split
  · rfl
  · exact (pending_lookPoll ..).trans (pending_skipQuarantined ..)

theorem pending_lookJob : (lookJob i s).state.pending = s.pending := by
  unfold lookJob
  split
  · split
    · split
      · exact pending_endQueuedJob ..
      · rfl
    · exact pending_examineHead i rfl rfl
  · rfl

variable {s} in
theorem Look.pending_next {r : Look} {examine : State → Look} (hr : r.state.pending = s.pending)
    (hnext : ∀ u, (examine u).state.pending = u.pending) : (r.next examine).state.pending = s.pending := by
  cases r with
  | started u | settled u => exact hr
  | passed u => exact (hnext u).trans hr

theorem pending_lookOnce : (lookOnce i s).state.pending = s.pending :=
  Look.pending_next (Look.pending_next (Look.pending_next (pending_lookProbe s i) (pending_lookAlert · i))
    (pending_lookSchedule · i)) (pending_lookJob · i)

theorem pending_lookPasses (fuel : Nat) : (lookPasses i fuel s).pending = s.pending := by
  induction fuel generalizing s with
  | zero => rfl
  | succ fuel ih =>
    have honce := pending_lookOnce s i
    rw [lookPasses_succ]
    cases hlook : lookOnce i s with rw [hlook] at honce
    | started t => exact honce
    | settled t => exact (ih t).trans honce
    | passed t => exact honce

theorem pending_look : (look i s).pending = s.pending := pending_lookPasses ..

end

/-! ### Commands (R133, R134, R142, 12.2) -/

section
variable (s : State) (tag : Byte) (body : List Byte)

variable {s tag} in
theorem pending_carryOut {α : Type} {kind : Byte} {checked : Checked α} {effect : α → State → State}
    (heffect : ∀ a, (effect a s).pending = s.pending) : (carryOut tag kind checked effect s).pending = s.pending := by
  cases checked with
  | error status => rfl
  | ok a => exact heffect a

/-- No command touches the queue (12.2). -/
theorem pending_commandOf {kind : Byte} {run : Byte → List Byte → State → State} (hkind : commandOf kind = some run) :
    (run tag body s).pending = s.pending := by
  unfold commandOf at hkind
  split at hkind <;> cases hkind
  · exact pending_carryOut fun _ => rfl
  · exact pending_carryOut fun _ => rfl
  · exact pending_carryOut fun c => pending_clearClass s c
  · exact pending_carryOut fun _ => rfl
  · exact pending_carryOut fun _ => pending_start ..
  · exact pending_carryOut fun _ => pending_stop ..
  · exact pending_carryOut fun _ => rfl
  · exact pending_carryOut fun _ => (pending_answer ..).trans (pending_redefine ..)
  · exact pending_carryOut fun _ => (pending_answer ..).trans (pending_redefine ..)
  · exact pending_carryOut fun a => by
      split
      · rfl
      · exact (pending_answer ..).trans (pending_pausePoll s a.1)
  · exact pending_carryOut fun _ => rfl
  · exact pending_carryOut fun q => by
      refine (pending_answer ..).trans ?_
      split <;> simp
  · exact pending_carryOut fun _ => (pending_answer ..).trans (pending_afterChoice s)
  · exact pending_carryOut fun i => (State.setLane_pending ..).trans (pending_abandonLane s i)
  · exact pending_carryOut fun _ => (pending_answer ..).trans (pending_changeTarget ..)
  · exact pending_carryOut fun t =>
      (pending_answer ..).trans ((pending_changeTarget ..).trans (pending_removeProbe s t))
  · exact pending_carryOut fun _ => rfl
  · exact pending_carryOut fun a => by
      split
      · exact pending_quarantineTarget s a.1
      · exact pending_reviveTarget s a.1
  · exact pending_carryOut fun q => by
      refine (pending_wakeLane ..).trans ?_
      split <;> rfl
  · exact pending_carryOut fun a => (pending_finishDrain ..).trans (pending_cancelJob s a.1 a.2)
  · exact pending_carryOut fun i => by
      refine (pending_finishDrain ..).trans ?_
      split <;> simp
  · exact pending_carryOut fun a => by
      cases a with
      | inl q => exact pending_enableLine s q
      | inr l => exact pending_disableLine s l
  · exact pending_carryOut fun _ => rfl
  · exact pending_carryOut fun _ => rfl

theorem pending_refuse (kind : Byte) (status : ReplyStatus) : (refuse kind tag status s).pending = s.pending := by
  unfold refuse
  split
  · rfl
  · exact pending_hostError ..

variable {s} in
theorem pending_admission {effect : State → State} (heffect : ∀ u, (effect u).pending = u.pending) (kind : Byte) :
    (admission kind tag effect s).pending = s.pending := by
  rcases admission_cases kind tag effect s with ⟨_, _, _, hadm⟩ | ⟨status, _, href⟩
  · rw [hadm]
    exact heffect _
  · rw [href]
    exact pending_refuse ..

theorem pending_runFrame (kind : Byte) : (runFrame kind tag body s).pending = s.pending := by
  unfold runFrame
  split
  · rename_i hkind
    exact pending_commandOf s tag body hkind
  · rfl

/-! ### The receiver (R130, R131) -/

theorem pending_judge (frame : List Byte) : (judge frame s).pending = s.pending := by
  unfold judge
  dsimp only
  split
  · split
    · exact pending_admission _ (fun u => pending_runFrame u _ _ _) _
    · rfl
  · exact pending_hostError ..

theorem pending_takeByte (b : Byte) : (takeByte b s).pending = s.pending := by
  unfold takeByte
  split
  · split <;> rfl
  · split
    · rfl
    · exact pending_hostError ..
  · split <;> rfl
  · split
    · exact pending_judge ..
    · rfl

theorem pending_frameSent (content : FrameContent) : (frameSent content s).pending = s.pending := by
  unfold frameSent
  split
  · rfl
  · exact pending_afterChoice s
  all_goals rfl

end

/-! ### One happening -/

/-- The happening answers a next state, in which the commands that wait are those of `s`. -/
def CompletesFrom (s : State) (o : Host.Outcome State Fault Refusal) : Prop := ∃ t, o = .next t ∧ t.pending = s.pending

namespace CompletesFrom
variable {s u : State}

theorem next (h : u.pending = s.pending) : CompletesFrom s (.next u) := ⟨u, rfl, h⟩

theorem finish (h : u.pending = s.pending) : CompletesFrom s (finish u) := .next ((pending_arbitrate u).trans h)

theorem ite {c : Prop} [Decidable c] {a b : Host.Outcome State Fault Refusal} (ha : CompletesFrom s a)
    (hb : CompletesFrom s b) : CompletesFrom s (if c then a else b) := by
  split
  · exact ha
  · exact hb

theorem onTransaction {i : Fin 4} {k : Transaction → Host.Outcome State Fault Refusal}
    (hk : ∀ x, CompletesFrom s (k x)) : CompletesFrom s (onTransaction i s k) := by
  unfold Machine.onTransaction
  split
  · exact hk _
  · exact .next rfl

theorem endStep (h : u.pending = s.pending) (i : Fin 4) (f : Final) : CompletesFrom s (endStep i f u) :=
  .finish ((pending_finishDrain ..).trans ((pending_endTransaction ..).trans h))

theorem recoveryStep (h : u.pending = s.pending) (i : Fin 4) (state : LaneState) :
    CompletesFrom s (recoveryStep i state u s) := .finish ((pending_finishDrain ..).trans h)

theorem hostCommand {kind : Byte} {run : Byte → List Byte → State → State} (hkind : commandOf kind = some run)
    (tag : Byte) (body : List Byte) : CompletesFrom s (hostCommand kind tag (run tag body) s) :=
  .ite (.finish (pending_admission tag (fun v => pending_commandOf v tag body hkind) kind)) (.next rfl)

end CompletesFrom

section
variable (s : State)

theorem execTransmitEnd_completes : CompletesFrom s (execTransmitEnd s) := by
  unfold execTransmitEnd
  split
  · exact .finish (pending_frameSent ..)
  · exact .next rfl

theorem execTransactionEnd_completes (i : Fin 4) (result : BusResult) :
    CompletesFrom s (execTransactionEnd i result s) := by
  refine .onTransaction fun x => ?_
  split
  · exact .endStep rfl ..
  · exact .next rfl

theorem execRecoveryEnd_completes (i : Fin 4) (result : RecoveryResult) :
    CompletesFrom s (execRecoveryEnd i result s) := by
  refine .ite ?_ (.next rfl)
  cases result with
  | busFree => exact .recoveryStep (pending_recoveredIdle s i) ..
  | sdaHeld => exact .recoveryStep (pending_faultLane s i _ _) ..

theorem execDrainRemoval_completes (i : Fin 4) : CompletesFrom s (execDrainRemoval i s) := by
  unfold execDrainRemoval
  split
  · exact .ite (.finish ((pending_finishDrain ..).trans (pending_drainHead ..))) (.next rfl)
  · exact .next rfl

theorem event_completes {c : Instr} (hframe : c.hostFrame = none) : CompletesFrom s (exec c s) := by
  cases c <;> cases hframe
  case powerOn | resetInput | supplyBelowOperatingLevel => exact .next rfl
  case resetRelease => exact .ite (.next rfl) (.next rfl)
  case initEnd => exact .ite (.finish rfl) (.next rfl)
  case receiveByte => exact .ite (.finish (pending_takeByte ..)) (.next rfl)
  case gapTimeout => exact .ite (.finish (pending_hostError (toHunt s) _ _)) (.next rfl)
  case transmitEnd => exact execTransmitEnd_completes s
  case cycleStart => exact .ite (.finish (pending_startCycle ..)) (.next rfl)
  case lookForWork => exact .ite (.finish (pending_look ..)) (.next rfl)
  case attemptAddrNack => exact .onTransaction fun _ => .ite (.finish rfl) (.endStep rfl ..)
  case busStuck => exact .onTransaction fun _ => .endStep rfl ..
  case stretchTimeout | arbLost => exact .onTransaction fun _ => .endStep (State.setLane_pending ..) ..
  case transactionEnd => exact execTransactionEnd_completes ..
  case recoveryEnd => exact execRecoveryEnd_completes ..
  case recoverySclTimeout => exact .ite (.recoveryStep (pending_faultLane ..) ..) (.next rfl)
  case drainRemoval => exact execDrainRemoval_completes ..
  case alertInputChange => exact .ite (.finish (pending_takeLevel ..)) (.next rfl)
  case alertFilterExpiry => exact .ite (.finish (pending_takeLevel ..)) (.next rfl)
  case alertEvaluation =>
    exact .ite (.finish ((pending_evaluateLines ..).trans (pending_afterChoice s))) (.next rfl)

end

/-- Settles O2: a host command is a frame of a command that the decoder knows; the events are taken one by one. -/
theorem everyHappeningCompletes : Obligations.EveryHappeningCompletes := by
  intro c s
  cases hframe : c.hostFrame with
  | none => exact event_completes s hframe
  | some frame =>
    obtain ⟨run, hkind, hexec⟩ := exec_eq_hostCommand hframe s
    rw [hexec]
    exact CompletesFrom.hostCommand hkind ..

end Sys2Proof.Machine

/-! PROOF. What a happening that starts nothing may do (R64, R76, R93, R151): outside RUNNING nothing joins a tier or a job
queue, no transaction starts and no line leaves its rest. -/

namespace Sys2Proof.Machine

/-! ### Lanes and lines at which nothing starts -/

/-- From `a` to `b` nothing joins a tier or the job queue, and no transaction starts. -/
structure Lane.KeepsQuiet (a b : Lane) : Prop where
  workList : b.workList.Sublist a.workList
  probeTier : b.probeTier.Sublist a.probeTier
  alertTier : b.alertTier.Sublist a.alertTier
  jobs : b.jobs.Sublist a.jobs
  busy : b.state = .busy → a.state = .busy

theorem Lane.KeepsQuiet.refl (a : Lane) : a.KeepsQuiet a := ⟨.refl _, .refl _, .refl _, .refl _, id⟩

theorem Lane.KeepsQuiet.trans {a b c : Lane} (hab : a.KeepsQuiet b) (hbc : b.KeepsQuiet c) : a.KeepsQuiet c where
  workList := hbc.workList.trans hab.workList
  probeTier := hbc.probeTier.trans hab.probeTier
  alertTier := hbc.alertTier.trans hab.alertTier
  jobs := hbc.jobs.trans hab.jobs
  busy := hab.busy ∘ hbc.busy

theorem Lane.keepsQuiet_gains (l : Lane) (woken : Bool) : l.KeepsQuiet (l.gains [] woken) where
  __ := Lane.KeepsQuiet.refl l
  alertTier := by rw [Lane.gains, List.append_nil]

theorem told_keepsQuiet (op : OpState) (l : Lane) : l.KeepsQuiet (told op l) := by
  rw [told_frame]
  exact { Lane.KeepsQuiet.refl l with }

theorem Lane.keepsQuiet_endTxn (l : Lane) (status : RecordStatus) : l.KeepsQuiet (l.endTxn status) := by
  rw [Lane.endTxn_eq]
  exact { Lane.KeepsQuiet.refl l with busy := by dsimp only; split <;> nofun }

theorem unlisted_keepsQuiet (op : OpState) (p : Fin 48) (l : Lane) : l.KeepsQuiet (unlisted op p l) := by
  unfold unlisted
  split
  · refine .trans ?_ (told_keepsQuiet op _)
    exact { Lane.KeepsQuiet.refl l with workList := List.filter_sublist }
  · exact .refl l

theorem definitionEnded_keepsQuiet (s : State) (p : Fin 48) (l : Lane) : l.KeepsQuiet (definitionEnded s p l) := by
  refine .trans ?_ (unlisted_keepsQuiet s.op p _)
  exact { Lane.KeepsQuiet.refl l with }

/-- From `a` to `b` the line stays in its State or comes to rest: no read of it is owed or starts. -/
def Line.KeepsQuiet (a b : Line) : Prop := b.state = a.state ∨ b.state = .off ∨ b.state = .armed

theorem Line.KeepsQuiet.trans {a b c : Line} (hab : a.KeepsQuiet b) (hbc : b.KeepsQuiet c) : a.KeepsQuiet c := by
  rcases hbc with hsame | hrests
  · rw [Line.KeepsQuiet, hsame]
    exact hab
  · exact .inr hrests

/-- A line that is in a State other than OFF and ARMED has been in it before. -/
theorem Line.KeepsQuiet.state_ne {a b : Line} (h : a.KeepsQuiet b) {st : LineState} (ha : a.state ≠ st)
    (hoff : st ≠ .off) (harmed : st ≠ .armed) : b.state ≠ st := by
  rcases h with h | h | h <;> rw [h]
  · exact ha
  · exact hoff.symm
  · exact harmed.symm

/-- Outside RUNNING the end of a line's read leaves it OFF or ARMED (R85). -/
theorem Line.keepsQuiet_readEnded (l : Line) {op : OpState} (h : op ≠ .running) : l.KeepsQuiet (l.readEnded op) := by
  rw [Line.readEnded, if_neg h]
  split
  · exact .inr (.inl rfl)
  · exact .inr (.inr rfl)

/-! ### Happenings that start nothing -/

/-- The operating state, the reset that holds the part, and the evaluation owed (R151, R152, R93). -/
def State.mode (s : State) : OpState × Bool × Bool := (s.op, s.heldInReset, s.evaluationOwed)

/-- From `s` to `u` the part stays in its operating state, and outside RUNNING nothing starts. -/
structure KeepsQuiet (s u : State) : Prop where
  mode : u.mode = s.mode
  lanes : s.op ≠ .running → ∀ i, (s.lane i).KeepsQuiet (u.lane i)
  lines : s.op ≠ .running → ∀ l, (s.line l).KeepsQuiet (u.line l)

section
variable {s t u : State}

theorem op_of_mode (h : u.mode = s.mode) : u.op = s.op := congrArg Prod.fst h

theorem heldInReset_of_mode (h : u.mode = s.mode) : u.heldInReset = s.heldInReset := congrArg (fun m => m.2.1) h

theorem evaluationOwed_of_mode (h : u.mode = s.mode) : u.evaluationOwed = s.evaluationOwed :=
  congrArg (fun m => m.2.2) h

theorem KeepsQuiet.trans (hst : KeepsQuiet s t) (htu : KeepsQuiet t u) : KeepsQuiet s u := by
  have hop := op_of_mode hst.mode
  exact { mode := htu.mode.trans hst.mode
          lanes := fun h i => (hst.lanes h i).trans (htu.lanes (hop ▸ h) i)
          lines := fun h l => (hst.lines h l).trans (htu.lines (hop ▸ h) l) }

/-- In RUNNING anything may start. -/
theorem KeepsQuiet.of_running (hop : s.op = .running) (hm : u.mode = s.mode) : KeepsQuiet s u :=
  ⟨hm, fun h => absurd hop h, fun h => absurd hop h⟩

theorem KeepsQuiet.of_lanes (hm : u.mode = s.mode) (hn : u.lines = s.lines)
    (hl : ∀ i, (s.lane i).KeepsQuiet (u.lane i)) : KeepsQuiet s u :=
  ⟨hm, fun _ => hl, fun _ l => .inl (by rw [State.line, hn, State.line])⟩

theorem KeepsQuiet.of_tables (hm : u.mode = s.mode) (hl : u.lanes = s.lanes) (hn : u.lines = s.lines) :
    KeepsQuiet s u :=
  .of_lanes hm hn fun i => by rw [State.lane, State.lane, hl]; exact .refl _

theorem KeepsQuiet.refl (s : State) : KeepsQuiet s s := .of_tables rfl rfl rfl

theorem KeepsQuiet.of_mapLanes {f : Lane → Lane} (hf : ∀ l : Lane, l.KeepsQuiet (f l)) (hm : u.mode = s.mode)
    (hl : u.lanes = s.lanes.map f) (hn : u.lines = s.lines) : KeepsQuiet s u :=
  .of_lanes hm hn fun i => by rw [State.lane, State.lane, hl, Table.get_map]; exact hf _

theorem keepsQuiet_setLane {i : Fin 4} {x : Lane} (h : (s.lane i).KeepsQuiet x) : KeepsQuiet s (s.setLane i x) := by
  refine .of_lanes rfl rfl fun k => ?_
  rw [State.setLane_lane]
  split
  · rename_i hk
    exact hk ▸ h
  · exact .refl _

theorem keepsQuiet_setLine {l : Fin 8} {x : Line} (h : s.op ≠ .running → (s.line l).KeepsQuiet x) :
    KeepsQuiet s (s.setLine l x) := by
  refine ⟨rfl, fun _ _ => .refl _, fun hop k => ?_⟩
  rw [State.setLine_line]
  split
  · rename_i hk
    exact hk ▸ h hop
  · exact .inl rfl

theorem KeepsQuiet.foldl {α : Type} {f : State → α → State} (hf : ∀ s a, KeepsQuiet s (f s a)) (as : List α)
    (s : State) : KeepsQuiet s (as.foldl f s) :=
  foldl_keeps (P := KeepsQuiet s) (fun u a h => h.trans (hf u a)) as s (.refl s)

end

/-! ### Lanes, blocks, notices, replies and choices -/

section
variable (s : State)

theorem keepsQuiet_wakeLane (i : Fin 4) : KeepsQuiet s (wakeLane i s) := by
  rw [wakeLane_eq]
  exact keepsQuiet_setLane (told_keepsQuiet ..)

theorem keepsQuiet_releaseIf (b : Bool) : KeepsQuiet s (releaseIf b s) := by
  refine .of_lanes ?_ ?_ fun k => by rw [releaseIf_gains]; exact Lane.keepsQuiet_gains ..
  all_goals rw [releaseIf_frame]
  rfl

theorem keepsQuiet_wakeAll : KeepsQuiet s (wakeAll s) := by
  refine .of_lanes ?_ ?_ fun k => by rw [wakeAll_gains]; exact Lane.keepsQuiet_gains ..
  all_goals rw [wakeAll_frame]
  rfl

theorem keepsQuiet_releaseReservation (r : Reservation) : KeepsQuiet s (releaseReservation r s) := by
  cases r with
  | none => exact .refl s
  | slot => exact keepsQuiet_wakeAll s
  | slotAndBlock => exact keepsQuiet_releaseIf s true

theorem keepsQuiet_post (b : NoticeBody) : KeepsQuiet s (post b s) := by
  rw [post_frame]
  exact .of_tables rfl rfl rfl

theorem keepsQuiet_hostError (count : HostErrors → HostErrors) (one : HostErrors) :
    KeepsQuiet s (hostError count one s) := by
  rw [hostError_frame]
  exact .of_tables rfl rfl rfl

theorem keepsQuiet_makeReady (r : Reply) : KeepsQuiet s (makeReady r s) := .of_tables rfl rfl rfl

theorem keepsQuiet_setReceiver (r : Receiver) : KeepsQuiet s { s with receiver := r } := .of_tables rfl rfl rfl

theorem keepsQuiet_afterChoice : KeepsQuiet s s.afterChoice := by
  rw [afterChoice_frame]
  exact .of_tables rfl rfl rfl

theorem keepsQuiet_takeRecord (r : Record) (rest : List Record) : KeepsQuiet s (takeRecord r rest s) := by
  refine .trans ?_ (keepsQuiet_releaseIf ..)
  refine .trans ?_ (keepsQuiet_wakeAll _)
  exact .of_tables rfl rfl rfl

theorem keepsQuiet_arbitrate : KeepsQuiet s (arbitrate s) := by
  rcases arbitrate_cases s with hnone | ⟨_, _, htaken⟩ | ⟨_, _, _, _, _, htaken⟩ | ⟨_, _, _, _, _, _, _, htaken⟩ |
    ⟨_, _, _, _, _, _, _, _, htaken⟩
  · rw [hnone]
    exact .refl s
  · rw [htaken]
    exact .of_tables rfl rfl rfl
  · rw [htaken]
    exact .of_tables rfl rfl rfl
  · rw [htaken]
    exact .of_tables rfl rfl rfl
  · rw [htaken]
    exact keepsQuiet_takeRecord ..

/-! ### Targets (R12, R101, R102) -/

theorem keepsQuiet_changeTarget (t : Fin 32) (x : Target) : KeepsQuiet s (changeTarget t x s) := by
  rw [changeTarget_frame]
  exact .of_tables rfl rfl rfl

theorem keepsQuiet_targetOutcome (t : Fin 32) (isProbe : Bool) (status : RecordStatus) :
    KeepsQuiet s (targetOutcome t isProbe status s) := by
  refine .trans (keepsQuiet_changeTarget s t ((s.target t).afterOutcome isProbe status)) ?_
  unfold targetOutcome wakeIfRevived
  split
  · exact keepsQuiet_wakeLane ..
  · exact .refl _

theorem keepsQuiet_removeProbe (t : Fin 32) : KeepsQuiet s (removeProbe t s) := by
  unfold removeProbe
  dsimp only
  split
  · refine .trans ?_ (keepsQuiet_wakeLane ..)
    exact keepsQuiet_setLane { Lane.KeepsQuiet.refl _ with probeTier := List.filter_sublist }
  · exact .refl s

theorem keepsQuiet_reviveTarget (t : Fin 32) : KeepsQuiet s (reviveTarget t s) := by
  unfold reviveTarget
  dsimp only
  split
  · exact .refl s
  · exact .refl s
  · exact keepsQuiet_changeTarget ..
  · refine .trans ?_ (keepsQuiet_wakeLane ..)
    exact (keepsQuiet_removeProbe s t).trans (keepsQuiet_changeTarget ..)

theorem keepsQuiet_quarantineTarget (t : Fin 32) : KeepsQuiet s (quarantineTarget t s) := by
  unfold quarantineTarget
  dsimp only
  split
  · exact .refl s
  · exact keepsQuiet_changeTarget ..
  · exact keepsQuiet_changeTarget ..
  · refine .trans ?_ (keepsQuiet_removeProbe ..)
    split
    · exact .refl s
    · exact .of_tables rfl rfl rfl

/-! ### Alert lines (R79 to R93) -/

/-- A trigger comes about in RUNNING only (R82). -/
theorem keepsQuiet_trigger (hop : s.op = .running) (l : Fin 8) : KeepsQuiet s (trigger l s) := by
  rw [trigger_frame]
  exact .of_running hop rfl

theorem keepsQuiet_moveLine (l : Fin 8) : KeepsQuiet s (moveLine l s) := by
  unfold moveLine
  split
  · rename_i howes
    obtain ⟨_, _, _, hop⟩ := (Line.owesRead_iff ..).1 howes
    exact keepsQuiet_trigger s hop l
  · exact keepsQuiet_setLine fun hop => Line.keepsQuiet_readEnded _ hop

theorem keepsQuiet_activeEdge (l : Fin 8) : KeepsQuiet s (activeEdge l s) := by
  unfold activeEdge
  split
  · rename_i htriggers
    exact keepsQuiet_trigger s htriggers.2 l
  · split
    · exact keepsQuiet_setLine fun _ => .inl rfl
    · exact .refl s

theorem keepsQuiet_takeLevel (l : Fin 8) : KeepsQuiet s (takeLevel l s) := by
  have hlevel : KeepsQuiet s (s.setLine l { s.line l with level := inputActive s l }) :=
    keepsQuiet_setLine fun _ => .inl rfl
  unfold takeLevel
  dsimp only
  split
  · exact hlevel.trans (keepsQuiet_activeEdge ..)
  · exact hlevel

theorem keepsQuiet_enableLine (q : AlertRequest) : KeepsQuiet s (enableLine q s) := by
  have harmed : KeepsQuiet s
      (s.setLine q.line ((s.line q.line).armedWith q (s.alertPins.get q.line))) :=
    keepsQuiet_setLine fun _ => .inr (.inr rfl)
  unfold enableLine levelTrigger
  refine harmed.trans ?_
  split
  · rename_i htriggers
    exact keepsQuiet_trigger _ htriggers.1 _
  · exact .refl _

theorem keepsQuiet_removeAlertRead (l : Fin 8) : KeepsQuiet s (removeAlertRead l s) := by
  refine .trans ?_ (keepsQuiet_wakeLane ..)
  exact keepsQuiet_setLane { Lane.KeepsQuiet.refl _ with alertTier := List.filter_sublist }

theorem keepsQuiet_disableLine (l : Fin 8) : KeepsQuiet s (disableLine l s) := by
  unfold disableLine
  dsimp only
  split
  · exact .refl s
  · exact keepsQuiet_setLine fun _ => .inr (.inl rfl)
  · exact keepsQuiet_setLine fun _ => .inr (.inl rfl)
  · refine .trans ?_ (keepsQuiet_removeAlertRead ..)
    exact keepsQuiet_setLine fun _ => .inr (.inl rfl)
  · exact keepsQuiet_setLine fun _ => .inl rfl

/-! ### The end of transactions and recovery (R55 to R61) -/

theorem keepsQuiet_pollCompletion (p : Fin 48) (x : Transaction) (f : Final) :
    KeepsQuiet s (pollCompletion p x f s) := by
  obtain ⟨_, _, _, _, hlanes⟩ := tellsLanes_pollCompletion p x f s
  refine .of_lanes ?_ ?_ fun k => by rw [hlanes]; exact Lane.keepsQuiet_gains ..
  all_goals rw [pollCompletion_frame]
  rfl

theorem keepsQuiet_endAlertRead (l : Fin 8) (x : Transaction) (f : Final) : KeepsQuiet s (endAlertRead l x f s) := by
  refine .trans ?_ (keepsQuiet_releaseIf ..)
  refine .trans ?_ (keepsQuiet_moveLine ..)
  rw [alertSnapshot_frame]
  exact .of_tables rfl rfl rfl

theorem keepsQuiet_endRunningJob (j : Job) (f : Final) : KeepsQuiet s (endRunningJob j f s) := by
  refine .trans ?_ (keepsQuiet_releaseIf ..)
  refine .trans ?_ (keepsQuiet_releaseIf ..)
  exact .of_tables rfl rfl rfl

theorem keepsQuiet_reportOutcome (x : Transaction) (held : Reservation) (f : Final) :
    KeepsQuiet s (reportOutcome x held f s) := by
  unfold reportOutcome
  split
  · split
    · exact keepsQuiet_releaseReservation ..
    · exact keepsQuiet_pollCompletion ..
  · exact keepsQuiet_endAlertRead ..
  · exact keepsQuiet_endRunningJob ..
  · exact .refl s

theorem keepsQuiet_endTransaction (i : Fin 4) (f : Final) : KeepsQuiet s (endTransaction i f s) := by
  unfold endTransaction
  split
  · exact .refl s
  · refine .trans ?_ (keepsQuiet_wakeLane ..)
    refine .trans ?_ (keepsQuiet_reportOutcome ..)
    refine .trans ?_ (keepsQuiet_targetOutcome ..)
    exact keepsQuiet_setLane (Lane.keepsQuiet_endTxn ..)

theorem keepsQuiet_recover (i : Fin 4) (fromFault : Bool) :
    KeepsQuiet s (s.setLane i ((s.lane i).recover fromFault)) :=
  keepsQuiet_setLane { Lane.KeepsQuiet.refl _ with busy := nofun }

theorem keepsQuiet_abandonLane (i : Fin 4) : KeepsQuiet s (abandonLane i s) := by
  unfold abandonLane
  split
  · exact .refl s
  · exact .refl s
  · exact keepsQuiet_recover ..
  · exact keepsQuiet_endTransaction ..
  · exact (keepsQuiet_recover ..).trans (keepsQuiet_post ..)

theorem keepsQuiet_laneReset (tag : Byte) (i : Fin 4) : KeepsQuiet s (laneReset tag i s) :=
  (keepsQuiet_abandonLane s i).trans (keepsQuiet_setLane { Lane.KeepsQuiet.refl _ with })

theorem keepsQuiet_recoveredIdle (i : Fin 4) : KeepsQuiet s (recoveredIdle i s) := by
  have hidle : KeepsQuiet s (s.setLane i { s.lane i with state := .idle, waitingResets := [], fromFault := false }) :=
    keepsQuiet_setLane { Lane.KeepsQuiet.refl _ with busy := nofun }
  refine .trans ?_ (keepsQuiet_wakeLane ..)
  split
  · exact hidle.trans (keepsQuiet_post ..)
  · exact hidle

theorem keepsQuiet_faultLane (i : Fin 4) (cause : FaultCause) (posted : LaneCause) :
    KeepsQuiet s (faultLane i cause posted s) := by
  refine .trans ?_ (keepsQuiet_post ..)
  exact keepsQuiet_setLane { Lane.KeepsQuiet.refl _ with busy := nofun }

/-! ### Jobs that leave a queue (R71 to R77) -/

theorem keepsQuiet_endQueuedJob (j : Job) (status : RecordStatus) : KeepsQuiet s (endQueuedJob j status s) := by
  refine .trans ?_ (keepsQuiet_releaseIf ..)
  exact .of_tables rfl rfl rfl

theorem keepsQuiet_cancelJob (i : Fin 4) (number : Nat) : KeepsQuiet s (cancelJob i number s) := by
  unfold cancelJob
  split
  · refine .trans ?_ (keepsQuiet_wakeLane ..)
    refine .trans ?_ (keepsQuiet_endQueuedJob ..)
    exact keepsQuiet_setLane { Lane.KeepsQuiet.refl _ with jobs := List.eraseP_sublist }
  · exact .refl s

theorem keepsQuiet_flushJobs (i : Fin 4) : KeepsQuiet s (flushJobs i s) := by
  refine .trans ?_ (.foldl (fun u j => keepsQuiet_endQueuedJob u j .cancelled) ..)
  exact keepsQuiet_setLane { Lane.KeepsQuiet.refl _ with jobs := List.nil_sublist _ }

theorem keepsQuiet_drainHead {s : State} {i : Fin 4} {j : Job} {rest : List Job} (h : (s.lane i).jobs = j :: rest) :
    KeepsQuiet s (drainHead i j rest s) := by
  have hleaves : KeepsQuiet s (s.setLane i { s.lane i with jobs := rest }) :=
    keepsQuiet_setLane { Lane.KeepsQuiet.refl _ with jobs := h ▸ List.sublist_cons_self .. }
  refine .trans ?_ (keepsQuiet_endQueuedJob ..)
  exact hleaves.trans (.of_tables rfl rfl rfl)

/-! ### Polls, counters and settings -/

/-- The definition of an entry that is replaced ends (R24 to R26). -/
theorem keepsQuiet_redefine (p : Fin 48) (x : Poll) :
    KeepsQuiet s (unlistPoll p (markDefinitionEnd p (s.setPoll p x))) := by
  rw [unlistPoll_markDefinitionEnd]
  exact .of_mapLanes (definitionEnded_keepsQuiet (s.setPoll p x) p) rfl rfl rfl

theorem keepsQuiet_pausePoll (p : Fin 48) : KeepsQuiet s (pausePoll p s) := by
  rw [pausePoll, unlistPoll_eq]
  exact .of_mapLanes (unlisted_keepsQuiet s.op p) rfl rfl rfl

theorem keepsQuiet_clearLanes : KeepsQuiet s (clearLanes s) :=
  .of_mapLanes (f := fun l => { l with counts := .zero }) (fun l => { Lane.KeepsQuiet.refl l with }) rfl rfl rfl

theorem keepsQuiet_clearAlerts : KeepsQuiet s (clearAlerts s) :=
  ⟨rfl, fun _ _ => .refl _, fun _ l => .inl (by rw [clearAlerts, State.line, Table.get_map]; rfl)⟩

theorem keepsQuiet_clearClass (c : CounterClass) : KeepsQuiet s (clearClass c s) := by
  cases c with
  | all =>
    have hentries : KeepsQuiet s (clearPolls (clearTargets s)) := .of_tables rfl rfl rfl
    refine ((hentries.trans (keepsQuiet_clearLanes _)).trans (keepsQuiet_clearAlerts _)).trans ?_
    exact .of_tables rfl rfl rfl
  | lane => exact keepsQuiet_clearLanes s
  | alert => exact keepsQuiet_clearAlerts s
  | target | poll | result | host => exact .of_tables rfl rfl rfl

theorem keepsQuiet_withInterval (n : Nat) :
    KeepsQuiet s { s with interval := n, lanes := s.lanes.map fun l => l.withInterval n } :=
  .of_mapLanes (f := fun l => l.withInterval n) (fun l => { Lane.KeepsQuiet.refl l with }) rfl rfl rfl

theorem keepsQuiet_withSettings (q : LaneRequest) :
    KeepsQuiet s (s.setLane q.lane ((s.lane q.lane).withSettings s.interval q)) :=
  keepsQuiet_setLane { Lane.KeepsQuiet.refl _ with busy := (LaneState.afterSetLane_eq_busy ..).1 }

end

end Sys2Proof.Machine

/-! PROOF. What INIT, STANDBY and DRAINING exclude (R151, R152, R64, R76, R93) at every command, and in a part that is in
reset. -/

namespace Sys2Proof.Machine

/-! ### A part in reset, and a part out of INIT -/

section
variable {s : State} (h : InReset s)
include h

theorem InReset.op : s.op = .init := congrArg State.op h

theorem InReset.evaluationOwed : s.evaluationOwed = false := congrArg State.evaluationOwed h

theorem InReset.receiver : s.receiver = Receiver.hunting false := congrArg State.receiver h

theorem InReset.transmitter : s.transmitter = none := congrArg State.transmitter h

theorem InReset.lane (i : Fin 4) : s.lane i = Lane.afterReset := by
  rw [State.lane, congrArg State.lanes h]
  exact Table.get_replicate ..

theorem InReset.line (l : Fin 8) : s.line l = Line.afterReset := by
  rw [State.line, congrArg State.lines h]
  exact Table.get_replicate ..

/-- The arbiter finds nothing to take (R152). -/
theorem InReset.settled : arbitrate s = s :=
  arbitrate_nothing h.transmitter (congrArg State.announcePending h) (congrArg State.ready h)
    (congrArg State.notices h) (congrArg State.records h)

end

/-- The part is out of INIT, and what STANDBY and DRAINING exclude is excluded (R151, R64, R76, R93). -/
structure AtWork (s : State) : Prop where
  op : s.op ≠ .init
  held : s.heldInReset = false
  tiers : s.op ≠ .running → ∀ i, (s.lane i).workList = [] ∧ (s.lane i).probeTier = [] ∧ (s.lane i).alertTier = []
  lines : s.op ≠ .running → ∀ l, (s.line l).state ≠ .pending ∧ (s.line l).state ≠ .holdoff
  owed : s.op ≠ .running → s.evaluationOwed = false
  marked : s.op = .draining → ∀ i, ∀ j ∈ (s.lane i).jobs, j.cancelling = true
  lanesRest : s.op = .standby → ∀ i, (s.lane i).jobs = [] ∧ (s.lane i).state ≠ .busy
  linesRest : s.op = .standby → ∀ l, (s.line l).state ≠ .running

theorem InReset.quietInv {s : State} (h : InReset s) : QuietInv s := by
  refine ⟨fun _ => ⟨fun i => ?_, fun l => ?_, h.evaluationOwed⟩, fun hop => ?_, fun _ => ⟨fun i => ?_, fun l => ?_⟩,
    fun _ => h, fun _ => h.op⟩
  · rw [h.lane]
    exact ⟨rfl, rfl, rfl⟩
  · rw [h.line]
    exact ⟨nofun, nofun⟩
  · rw [h.op] at hop
    cases hop
  · rw [h.lane]
    exact ⟨rfl, nofun⟩
  · rw [h.line]
    nofun

theorem AtWork.quietInv {s : State} (h : AtWork s) : QuietInv s :=
  ⟨fun hop => ⟨h.tiers hop, h.lines hop, h.owed hop⟩, h.marked,
    fun hop => ⟨h.lanesRest (hop.resolve_right h.op), h.linesRest (hop.resolve_right h.op)⟩,
    fun hop => absurd hop h.op, fun hheld => absurd (h.held ▸ hheld) nofun⟩

/-- The part is in reset, or it is out of INIT. -/
theorem quietInv_iff {s : State} : QuietInv s ↔ InReset s ∨ AtWork s := by
  refine ⟨fun ⟨hidle, hmarked, hrest, hinit, hheld⟩ => ?_, fun h => h.elim InReset.quietInv AtWork.quietInv⟩
  by_cases hop : s.op = .init
  · exact .inl (hinit hop)
  · exact .inr { op := hop, held := Bool.eq_false_iff.2 (mt hheld hop), tiers := fun h => (hidle h).1
                 lines := fun h => (hidle h).2.1, owed := fun h => (hidle h).2.2, marked := hmarked
                 lanesRest := fun h => (hrest (.inl h)).1, linesRest := fun h => (hrest (.inl h)).2 }

/-! ### Happenings out of INIT -/

section
variable {s u : State}

/-- In RUNNING nothing is excluded. -/
theorem AtWork.of_running (hop : u.op = .running) (hheld : u.heldInReset = false) : AtWork u where
  op := by simp [hop]
  held := hheld
  tiers h := absurd hop h
  lines h := absurd hop h
  owed h := absurd hop h
  marked h := by simp [hop] at h
  lanesRest h := by simp [hop] at h
  linesRest h := by simp [hop] at h

variable (h : AtWork s)
include h

theorem AtWork.of_kept (hk : KeepsQuiet s u) : AtWork u := by
  have hop := op_of_mode hk.mode
  refine { op := hop ▸ h.op, held := (heldInReset_of_mode hk.mode).trans h.held, tiers := fun hu i => ?_
           lines := fun hu l => ?_, owed := fun hu => (evaluationOwed_of_mode hk.mode).trans (h.owed (hop ▸ hu))
           marked := fun hu i j hj => ?_, lanesRest := fun hu i => ?_, linesRest := fun hu l => ?_ } <;>
    rw [hop] at hu
  · obtain ⟨hworks, hprobes, hreads⟩ := h.tiers hu i
    have hlane := hk.lanes hu i
    exact ⟨List.sublist_nil.1 (hworks ▸ hlane.workList), List.sublist_nil.1 (hprobes ▸ hlane.probeTier),
      List.sublist_nil.1 (hreads ▸ hlane.alertTier)⟩
  · obtain ⟨hpending, hholdoff⟩ := h.lines hu l
    have hline := hk.lines hu l
    exact ⟨hline.state_ne hpending nofun nofun, hline.state_ne hholdoff nofun nofun⟩
  · have hlane := hk.lanes (by simp [hu]) i
    exact h.marked hu i j (hlane.jobs.subset hj)
  · obtain ⟨hjobs, hbusy⟩ := h.lanesRest hu i
    have hlane := hk.lanes (by simp [hu]) i
    exact ⟨List.sublist_nil.1 (hjobs ▸ hlane.jobs), mt hlane.busy hbusy⟩
  · have hline := hk.lines (by simp [hu]) l
    exact hline.state_ne (h.linesRest hu l) nofun nofun

theorem AtWork.reply_of_kept (hk : KeepsQuiet s u) (r : Reply) : AtWork (makeReady r u) :=
  h.of_kept (hk.trans (keepsQuiet_makeReady u r))

theorem AtWork.reply (r : Reply) : AtWork (makeReady r s) := h.reply_of_kept (.refl s) r

theorem AtWork.carryOut {α : Type} {tag kind : Byte} {checked : Checked α} {effect : α → State → State}
    (heffect : ∀ a, checked = .ok a → AtWork (effect a s)) : AtWork (carryOut tag kind checked effect s) := by
  cases checked with
  | error status => exact h.reply _
  | ok a => exact heffect a rfl

end

/-! ### Cycle starts and the end of DRAINING (R15, R156) -/

theorem atWork_startCycle {s : State} (hop : s.op = .running) (hheld : s.heldInReset = false) (c : Word16) :
    AtWork (startCycle c s) := by
  rw [startCycle_frame]
  exact .of_running hop hheld

theorem drainDone_iff (s : State) : drainDone s = true ↔ s.op = .draining ∧ DrainOver s := by
  have hlines : s.lines.toList = (List.finRange 8).map s.line := Table.toList_eq_map_finRange s.lines
  simp [drainDone, DrainOver, State.lanes_toList, hlines, and_assoc]

theorem AtWork.finishDrain {s : State} (h : AtWork s) (others : List Reply) : AtWork (finishDrain others s) := by
  unfold Machine.finishDrain
  split
  · rename_i hdone
    obtain ⟨hop, hlanes, hlines⟩ := (drainDone_iff s).1 hdone
    have hrun : s.op ≠ .running := by simp [hop]
    exact { op := nofun, held := h.held, tiers := fun _ => h.tiers hrun, lines := fun _ => h.lines hrun
            owed := fun _ => h.owed hrun, marked := nofun
            lanesRest := fun _ i => ⟨(hlanes i).2.2, (hlanes i).1⟩, linesRest := fun _ => hlines }
  · exact h.of_kept (.of_tables rfl rfl rfl)

/-! ### STOP (R155) -/

theorem Line.stopped_not_holdoff (l : Line) : l.stopped.state ≠ .holdoff := by
  unfold Line.stopped
  split <;> simp_all

/-- STOP empties every tier, marks every queued job, and takes every line out of PENDING and HOLDOFF (R35, R64, R76,
R93). -/
theorem atWork_stoppedPart {s : State} (hheld : s.heldInReset = false) (tag : Byte) : AtWork (stoppedPart tag s) := by
  have hlane (i : Fin 4) : (stoppedPart tag s).lane i = (s.lane i).stopped := Table.get_map ..
  have hline (l : Fin 8) : (stoppedPart tag s).line l = (s.line l).stopped := Table.get_map ..
  refine { op := nofun, held := hheld, tiers := fun _ i => ?_, lines := fun _ l => ?_, owed := fun _ => rfl
           marked := fun _ i j hj => ?_, lanesRest := nofun, linesRest := nofun }
  · rw [hlane]
    exact ⟨rfl, rfl, rfl⟩
  · rw [hline]
    exact ⟨(s.line l).stopped_not_pending, (s.line l).stopped_not_holdoff⟩
  · rw [hlane] at hj
    obtain ⟨k, _, rfl⟩ := List.mem_map.1 hj
    rfl

/-! ### Admitted commands (R142) -/

theorem LengthThenState.legal_of_ok {α : Type} {lengthOk legal : Bool} {checked : Checked α} {a : α}
    (h : LengthThenState lengthOk legal checked) (hok : checked = .ok a) : legal = true := by
  cases hl : lengthOk with
  | false => simp [h.length hl] at hok
  | true =>
    by_contra hlegal
    simp [h.state hl (Bool.eq_false_iff.2 hlegal)] at hok

section
variable {s : State} (h : AtWork s) (tag : Byte) (body : List Byte)
include h

theorem atWork_runStart : AtWork (runStart tag body s) :=
  h.carryOut fun _ _ =>
    (atWork_startCycle (s := { s with op := .running, evaluationOwed := true }) rfl h.held 0).reply _

theorem atWork_runStop : AtWork (runStop tag body s) :=
  h.carryOut fun _ _ => (atWork_stoppedPart h.held tag).finishDrain []

theorem atWork_runSetPollState : AtWork (runSetPollState tag body s) := by
  refine h.carryOut fun a _ => ?_
  split
  · refine h.reply_of_kept ?_ _
    exact .of_tables rfl rfl rfl
  · exact h.reply_of_kept (keepsQuiet_pausePoll ..) _

theorem atWork_runSetLane : AtWork (runSetLane tag body s) := by
  refine h.carryOut fun q _ => h.reply_of_kept ?_ _
  split
  · exact (keepsQuiet_withSettings s q).trans (keepsQuiet_post ..)
  · exact keepsQuiet_withSettings s q

theorem atWork_runSetTargetState : AtWork (runSetTargetState tag body s) := by
  refine h.carryOut fun a _ => h.reply_of_kept ?_ _
  split
  · exact keepsQuiet_quarantineTarget ..
  · exact keepsQuiet_reviveTarget ..

/-- SUBMIT is legal in RUNNING only (R144). -/
theorem atWork_runSubmit : AtWork (runSubmit tag body s) := by
  refine h.carryOut fun q hq => h.reply_of_kept (.of_running ?_ ?_) _
  · simpa [OpState.legalInRunning] using (checkSubmit_lengthThenState body s).legal_of_ok hq
  · rw [wakeLane_frame]
    dsimp only
    split <;> rfl

theorem atWork_runCancel : AtWork (runCancel tag body s) :=
  h.carryOut fun _ _ => (h.of_kept (keepsQuiet_cancelJob ..)).finishDrain _

theorem atWork_runFlushLane : AtWork (runFlushLane tag body s) := by
  refine h.carryOut fun i _ => (h.of_kept ?_).finishDrain _
  split
  · exact keepsQuiet_flushJobs ..
  · exact (keepsQuiet_flushJobs ..).trans (keepsQuiet_wakeLane ..)

theorem atWork_runSetAlert : AtWork (runSetAlert tag body s) := by
  refine h.carryOut fun a _ => ?_
  cases a with
  | inl q => exact h.reply_of_kept (keepsQuiet_enableLine s q) _
  | inr l => exact h.reply_of_kept (keepsQuiet_disableLine s l) _

/-- Every command keeps what the operating states exclude excluded (12.2). -/
theorem atWork_commandOf {kind : Byte} {run : Byte → List Byte → State → State} (hkind : commandOf kind = some run) :
    AtWork (run tag body s) := by
  unfold commandOf at hkind
  split at hkind <;> cases hkind
  · exact h.carryOut fun _ _ => h.reply _
  · exact h.carryOut fun _ _ => h.reply _
  · exact h.carryOut fun c _ => h.reply_of_kept (keepsQuiet_clearClass s c) _
  · exact h.carryOut fun _ _ => h.reply_of_kept (keepsQuiet_setReceiver s _) _
  · exact atWork_runStart h tag body
  · exact atWork_runStop h tag body
  · exact h.carryOut fun n _ => h.reply_of_kept (keepsQuiet_withInterval s n) _
  · exact h.carryOut fun _ _ => h.reply_of_kept (keepsQuiet_redefine ..) _
  · exact h.carryOut fun _ _ => h.reply_of_kept (keepsQuiet_redefine ..) _
  · exact atWork_runSetPollState h tag body
  · exact h.carryOut fun _ _ => h.reply _
  · exact atWork_runSetLane h tag body
  · exact h.carryOut fun _ _ => h.reply_of_kept (keepsQuiet_afterChoice s) _
  · exact h.carryOut fun i _ => h.of_kept (keepsQuiet_laneReset s tag i)
  · exact h.carryOut fun _ _ => h.reply_of_kept (keepsQuiet_changeTarget ..) _
  · exact h.carryOut fun t _ =>
      h.reply_of_kept ((keepsQuiet_removeProbe s t).trans (keepsQuiet_changeTarget ..)) _
  · exact h.carryOut fun _ _ => h.reply _
  · exact atWork_runSetTargetState h tag body
  · exact atWork_runSubmit h tag body
  · exact atWork_runCancel h tag body
  · exact atWork_runFlushLane h tag body
  · exact atWork_runSetAlert h tag body
  · exact h.carryOut fun _ _ => h.reply _
  · refine h.carryOut fun n _ => h.reply_of_kept ?_ _
    exact .of_tables rfl rfl rfl

end

/-! ### Admission and the receiver (R130 to R134) -/

theorem keepsQuiet_refuse (s : State) (kind tag : Byte) (status : ReplyStatus) :
    KeepsQuiet s (refuse kind tag status s) := by
  unfold refuse
  split
  · exact keepsQuiet_makeReady ..
  · exact keepsQuiet_hostError ..

section
variable {s : State} (h : AtWork s)
include h

theorem AtWork.admission {effect : State → State} (heffect : ∀ u, AtWork u → AtWork (effect u)) (kind tag : Byte) :
    AtWork (admission kind tag effect s) := by
  rcases admission_cases kind tag effect s with ⟨_, _, _, hadm⟩ | ⟨status, _, href⟩
  · rw [hadm]
    exact heffect _ (h.of_kept (.of_tables rfl rfl rfl))
  · rw [href]
    exact h.of_kept (keepsQuiet_refuse ..)

theorem atWork_runFrame (kind tag : Byte) (body : List Byte) : AtWork (runFrame kind tag body s) := by
  unfold runFrame
  split
  · rename_i hkind
    exact atWork_commandOf h tag body hkind
  · exact h.reply _

theorem atWork_judge (frame : List Byte) : AtWork (judge frame s) := by
  have hhunt : AtWork (toHunt s) := h.of_kept (keepsQuiet_setReceiver ..)
  unfold judge
  dsimp only
  split
  · split
    · exact hhunt.admission (fun _ hu => atWork_runFrame hu _ _ _) _ _
    · exact hhunt
  · exact hhunt.of_kept (keepsQuiet_hostError ..)

theorem atWork_takeByte (b : Byte) : AtWork (takeByte b s) := by
  have hreceiver (r : Receiver) : AtWork { s with receiver := r } := h.of_kept (keepsQuiet_setReceiver ..)
  unfold takeByte
  split
  · split
    · exact hreceiver _
    · exact h
  · split
    · exact hreceiver _
    · exact (hreceiver _).of_kept (keepsQuiet_hostError ..)
  · split
    · exact hreceiver _
    · exact hreceiver _
  · split
    · exact atWork_judge h _
    · exact hreceiver _

end

end Sys2Proof.Machine

/-! PROOF. What INIT, STANDBY and DRAINING exclude (R151, R152, R64, R76, R93) at every event, and the step lemma. -/

namespace Sys2Proof.Machine

/-! ### Looking for work stays in the operating state (R42 to R47) -/

section
variable (i : Fin 4) (s : State)

theorem mode_startTransaction (x : Transaction) : (startTransaction i x s).mode = s.mode := by
  unfold startTransaction
  dsimp only
  split <;> rfl

variable {s} in
theorem mode_examineHead {x : Transaction} {close start : State → State} (hclose : (close s).mode = s.mode)
    (hstart : (start s).mode = s.mode) : (examineHead i x close start s).state.mode = s.mode := by
  unfold examineHead
  split
  · exact hclose
  · split
    · exact (mode_startTransaction ..).trans hstart
    · rfl

theorem mode_lookProbe : (lookProbe i s).state.mode = s.mode := by
  unfold lookProbe
  split
  · exact mode_examineHead i rfl rfl
  · rfl

theorem mode_lookAlert : (lookAlert i s).state.mode = s.mode := by
  unfold lookAlert
  split
  · dsimp only
    split
    · split
      · rw [Look.state, settleAlert_frame]
        rfl
      · rfl
    · exact mode_examineHead i rfl rfl
  · rfl

theorem mode_skipQuarantined (ps : List (Fin 48)) : (skipQuarantined i ps s).mode = s.mode := by
  induction ps generalizing s with
  | nil => rfl
  | cons p rest ih =>
    unfold skipQuarantined
    split
    · exact (ih _).trans (keepsQuiet_post ..).mode
    · rfl

theorem mode_lookPoll : (lookPoll i s).state.mode = s.mode := by
  unfold lookPoll
  split
  · exact mode_examineHead i rfl rfl
  · rfl

theorem mode_lookSchedule : (lookSchedule i s).state.mode = s.mode := by
  unfold lookSchedule
  split
  · rfl
  · exact (mode_lookPoll ..).trans (mode_skipQuarantined ..)

theorem mode_lookJob : (lookJob i s).state.mode = s.mode := by
  unfold lookJob
  split
  · split
    · split
      · exact (keepsQuiet_endQueuedJob ..).mode
      · rfl
    · exact mode_examineHead i rfl rfl
  · rfl

variable {s} in
theorem Look.mode_next {r : Look} {examine : State → Look} (hr : r.state.mode = s.mode)
    (hnext : ∀ u, (examine u).state.mode = u.mode) : (r.next examine).state.mode = s.mode := by
  cases r with
  | started u | settled u => exact hr
  | passed u => exact (hnext u).trans hr

theorem mode_lookOnce : (lookOnce i s).state.mode = s.mode :=
  Look.mode_next (Look.mode_next (Look.mode_next (mode_lookProbe i s) (mode_lookAlert i)) (mode_lookSchedule i))
    (mode_lookJob i)

theorem mode_lookPasses (fuel : Nat) : (lookPasses i fuel s).mode = s.mode := by
  induction fuel generalizing s with
  | zero => rfl
  | succ fuel ih =>
    have honce := mode_lookOnce i s
    rw [lookPasses_succ]
    cases hlook : lookOnce i s with rw [hlook] at honce
    | started t => exact honce
    | settled t => exact (ih t).trans honce
    | passed t => exact honce

theorem mode_look : (look i s).mode = s.mode := mode_lookPasses ..

end

/-! ### Events of a part out of INIT -/

theorem atWork_evaluateLines {s : State} (hop : s.op = .running) (hheld : s.heldInReset = false) (picks : List Nat) :
    AtWork (evaluateLines picks s) := by
  rw [evaluateLines, triggerAll_frame]
  exact .of_running hop hheld

theorem inReset_frameSent (s : State) : InReset (frameSent (.reply .resetCommand) s) := by
  rw [frameSent, commandReset, withChoice, afterChoice_frame]
  rfl

section
variable {s : State} (h : AtWork s)
include h

theorem AtWork.answersNext : Answers QuietInv (.next s) := .next h.quietInv

theorem AtWork.answersFinish : Answers QuietInv (finish s) := .next (h.of_kept (keepsQuiet_arbitrate s)).quietInv

theorem AtWork.answersKept {u : State} (hk : KeepsQuiet s u) : Answers QuietInv (finish u) :=
  (h.of_kept hk).answersFinish

/-- A happening that ends with a look at the end of DRAINING (R156). -/
theorem AtWork.answersDrained {u : State} (hk : KeepsQuiet s u) (others : List Reply) :
    Answers QuietInv (finish (Machine.finishDrain others u)) := ((h.of_kept hk).finishDrain others).answersFinish

theorem AtWork.answersEndStep (i : Fin 4) (f : Final) : Answers QuietInv (endStep i f s) :=
  h.answersDrained (keepsQuiet_endTransaction ..) _

/-- The end of an attempt that the lane counts (R52, R53). -/
theorem AtWork.answersCountedEnd (i : Fin 4) (counts : LaneCounts) (f : Final) :
    Answers QuietInv (endStep i f (s.setLane i { s.lane i with counts := counts })) := by
  have hcounted : KeepsQuiet s (s.setLane i { s.lane i with counts := counts }) :=
    keepsQuiet_setLane { Lane.KeepsQuiet.refl _ with }
  exact (h.of_kept hcounted).answersEndStep i f

theorem AtWork.answersTransaction (i : Fin 4) {k : Transaction → Host.Outcome State Fault Refusal}
    (hk : ∀ x, Answers QuietInv (k x)) : Answers QuietInv (onTransaction i s k) :=
  .onTransaction h.quietInv fun x _ => hk x

theorem AtWork.answersExecAttemptAddrNack (i : Fin 4) : Answers QuietInv (execAttemptAddrNack i s) :=
  h.answersTransaction i fun _ =>
    .ite (fun _ => h.answersKept (keepsQuiet_setLane { Lane.KeepsQuiet.refl _ with })) (h.answersEndStep _ _)

theorem AtWork.answersExecTransactionEnd (i : Fin 4) (result : BusResult) :
    Answers QuietInv (execTransactionEnd i result s) := by
  refine h.answersTransaction i fun x => ?_
  split
  · exact h.answersEndStep _ _
  · exact h.answersNext

theorem AtWork.answersExecRecoveryEnd (i : Fin 4) (result : RecoveryResult) :
    Answers QuietInv (execRecoveryEnd i result s) := by
  refine .ite (fun _ => ?_) h.answersNext
  cases result with
  | busFree => exact h.answersDrained (keepsQuiet_recoveredIdle ..) _
  | sdaHeld => exact h.answersDrained (keepsQuiet_faultLane ..) _

theorem AtWork.answersExecDrainRemoval (i : Fin 4) : Answers QuietInv (execDrainRemoval i s) := by
  unfold execDrainRemoval
  split
  · rename_i hjobs
    exact .ite (fun _ => h.answersDrained (keepsQuiet_drainHead hjobs) _) h.answersNext
  · exact h.answersNext

theorem AtWork.answersExecAlertInputChange (l : Fin 8) (high : Bool) :
    Answers QuietInv (execAlertInputChange l high s) := by
  have hpins : AtWork { s with alertPins := s.alertPins.set l high } := h.of_kept (.of_tables rfl rfl rfl)
  exact .ite (fun _ => hpins.answersKept (keepsQuiet_takeLevel ..)) hpins.answersNext

/-- The end of the RESET command's reply resets the part; every other end leaves its work as it is (R137, R157). -/
theorem AtWork.answersExecTransmitEnd : Answers QuietInv (execTransmitEnd s) := by
  have hfree : AtWork { s with transmitter := none } := h.of_kept (.of_tables rfl rfl rfl)
  unfold execTransmitEnd
  split
  · rename_i frame _
    cases hcontent : frame.content with
    | announce => exact hfree.answersKept (keepsQuiet_setReceiver ..)
    | notice | result => exact hfree.answersFinish
    | reply origin =>
      cases origin with
      | resetCommand =>
        have hreset := inReset_frameSent { s with transmitter := none }
        exact .next (hreset.settled.symm ▸ hreset.quietInv)
      | command | refusal => exact hfree.answersFinish
  · exact h.answersNext

theorem AtWork.answersEvent {c : Instr} (hframe : c.hostFrame = none) : Answers QuietInv (exec c s) := by
  cases c <;> cases hframe
  case powerOn | resetInput | supplyBelowOperatingLevel => exact .next (InReset.quietInv rfl)
  case resetRelease => exact .ite (fun _ => .next (InReset.quietInv rfl)) h.answersNext
  case initEnd => exact .ite (fun hinit => absurd hinit.1 h.op) h.answersNext
  case receiveByte => exact .ite (fun _ => (atWork_takeByte h _).answersFinish) h.answersNext
  case gapTimeout =>
    exact .ite (fun _ => h.answersKept ((keepsQuiet_setReceiver ..).trans (keepsQuiet_hostError ..))) h.answersNext
  case transmitEnd => exact h.answersExecTransmitEnd
  case cycleStart => exact .ite (fun hop => (atWork_startCycle hop h.held _).answersFinish) h.answersNext
  case lookForWork => exact .ite (fun hlook => h.answersKept (.of_running hlook.2.1 (mode_look ..))) h.answersNext
  case attemptAddrNack => exact h.answersExecAttemptAddrNack _
  case stretchTimeout => exact h.answersTransaction _ fun _ => h.answersCountedEnd _ _ _
  case busStuck => exact h.answersTransaction _ fun _ => h.answersEndStep _ _
  case arbLost => exact h.answersTransaction _ fun _ => h.answersCountedEnd _ _ _
  case transactionEnd => exact h.answersExecTransactionEnd _ _
  case recoveryEnd => exact h.answersExecRecoveryEnd _ _
  case recoverySclTimeout => exact .ite (fun _ => h.answersDrained (keepsQuiet_faultLane ..) _) h.answersNext
  case drainRemoval => exact h.answersExecDrainRemoval _
  case alertInputChange => exact h.answersExecAlertInputChange _ _
  case alertFilterExpiry => exact .ite (fun _ => h.answersKept (keepsQuiet_takeLevel ..)) h.answersNext
  case alertEvaluation =>
    have hmode := (keepsQuiet_afterChoice s).mode
    exact .ite (fun howed => (atWork_evaluateLines ((op_of_mode hmode).trans howed.1)
      ((heldInReset_of_mode hmode).trans h.held) _).answersFinish) h.answersNext

theorem AtWork.answers (c : Instr) : Answers QuietInv (exec c s) := by
  cases hframe : c.hostFrame with
  | none => exact h.answersEvent hframe
  | some frame =>
    obtain ⟨run, hkind, hexec⟩ := exec_eq_hostCommand hframe s
    have hhunt : AtWork { s with receiver := Receiver.hunting true } := h.of_kept (keepsQuiet_setReceiver ..)
    rw [hexec]
    exact .ite (fun _ => (hhunt.admission (fun _ hu => atWork_commandOf hu _ _ hkind) _ _).answersFinish)
      h.answersNext

end

/-! ### Events of a part in reset (R152) -/

section
variable {s : State} (h : InReset s)
include h

theorem InReset.answersNext : Answers QuietInv (.next s) := .next h.quietInv

/-- INIT ends: the part enters STANDBY, where it has nothing yet to do (R152). -/
theorem InReset.answersExecInitEnd : Answers QuietInv (execInitEnd s) := by
  refine .ite (fun hinit => AtWork.answersFinish ?_) h.answersNext
  have hlane (i : Fin 4) : ({ s with op := .standby, announcePending := true } : State).lane i = Lane.afterReset :=
    h.lane i
  have hline (l : Fin 8) : ({ s with op := .standby, announcePending := true } : State).line l = Line.afterReset :=
    h.line l
  refine { op := nofun, held := hinit.2, tiers := fun _ i => ?_, lines := fun _ l => ?_
           owed := fun _ => h.evaluationOwed, marked := nofun, lanesRest := fun _ i => ?_
           linesRest := fun _ l => ?_ }
  · rw [hlane]
    exact ⟨rfl, rfl, rfl⟩
  · rw [hline]
    exact ⟨nofun, nofun⟩
  · rw [hlane]
    exact ⟨rfl, nofun⟩
  · rw [hline]
    nofun

/-- No transaction runs. -/
theorem InReset.onTransaction (i : Fin 4) (k : Transaction → Host.Outcome State Fault Refusal) :
    onTransaction i s k = .next s := by
  unfold Machine.onTransaction
  rw [h.lane]
  rfl

/-- No line is enabled, so no filter times a change (R80). -/
theorem InReset.filterTiming (l : Fin 8) : filterTiming s l = false := by
  rw [Machine.filterTiming, h.line]
  rfl

theorem InReset.answersExecAlertInputChange (l : Fin 8) (high : Bool) :
    Answers QuietInv (execAlertInputChange l high s) := by
  have hset := congrArg (fun u : State => { u with alertPins := s.alertPins.set l high }) h
  have hpins : InReset { s with alertPins := s.alertPins.set l high } := hset
  exact .ite (fun htakes => absurd htakes.2 (by simp [hpins.filterTiming])) hpins.answersNext

theorem InReset.answersEvent {c : Instr} (hframe : c.hostFrame = none) : Answers QuietInv (exec c s) := by
  have hstays {o : Host.Outcome State Fault Refusal} (ho : o = .next s) : Answers QuietInv o := ho ▸ h.answersNext
  cases c <;> cases hframe
  case powerOn | resetInput | supplyBelowOperatingLevel => exact .next (InReset.quietInv rfl)
  case resetRelease => exact .ite (fun _ => .next (InReset.quietInv rfl)) h.answersNext
  case initEnd => exact h.answersExecInitEnd
  case receiveByte | gapTimeout => exact hstays (if_neg (by simp [h.receiver, Receiver.hunting]))
  case transmitEnd => exact hstays (by simp only [exec, execTransmitEnd, h.transmitter])
  case cycleStart => exact hstays (if_neg (by simp [h.op]))
  case lookForWork => exact hstays (if_neg (by simp [h.op]))
  case attemptAddrNack | stretchTimeout | busStuck | arbLost | transactionEnd => exact hstays (h.onTransaction _ _)
  case recoveryEnd | recoverySclTimeout => exact hstays (if_neg (by simp [h.lane, Lane.afterReset]))
  case drainRemoval => exact hstays (by simp only [exec, execDrainRemoval, h.lane, Lane.afterReset])
  case alertInputChange => exact h.answersExecAlertInputChange _ _
  case alertFilterExpiry => exact hstays (if_neg (by simp [h.filterTiming]))
  case alertEvaluation => exact hstays (if_neg (by simp [h.op]))

theorem InReset.answers (c : Instr) : Answers QuietInv (exec c s) := by
  cases hframe : c.hostFrame with
  | none => exact h.answersEvent hframe
  | some frame =>
    obtain ⟨run, _, hexec⟩ := exec_eq_hostCommand hframe s
    have hoff : s.receiver.on = false := congrArg Receiver.on h.receiver
    rw [hexec, hostCommand_off hoff]
    exact h.answersNext

end

/-! ### The step lemma -/

theorem exec_answersQuiet (c : Instr) (s : State) (h : QuietInv s) : Answers QuietInv (exec c s) :=
  (quietInv_iff.1 h).elim (fun hreset => hreset.answers c) fun hwork => hwork.answers c

theorem quietInv_setPending (s : State) (q : List Instr) (h : QuietInv s) : QuietInv { s with pending := q } := by
  rcases quietInv_iff.1 h with hreset | hwork
  · have hset := congrArg (fun u : State => { u with pending := q }) hreset
    exact InReset.quietInv hset
  · refine AtWork.quietInv (hwork.of_kept ?_)
    exact .of_tables rfl rfl rfl

/-- Settles O59: a part is in reset, where only the end of INIT has an effect, or out of INIT, where outside RUNNING nothing
joins a tier or a queue. -/
theorem stepKeepsQuietStates : Obligations.StepKeepsQuietStates := by
  intro s t h hstep
  exact step_answers quietInv_setPending exec_answersQuiet h hstep

end Sys2Proof.Machine

/-! PROOF. Start-up and the operating states: resets, INIT and the ANNOUNCE (R152, R153), START (R154), STOP and the end of
DRAINING (R155, R156), RESET (R157), and the invariants right after a reset. -/

namespace Sys2Proof.Machine

/-! ### Commands without fields (R143) -/

theorem checkEmpty_nil {legal : OpState → Bool} {s : State} (h : legal s.op = true) :
    checkEmpty legal [] s = .ok () := if_pos h

/-- An admitted command without fields in an operating state in which it is legal (R142 to R144). -/
theorem carryOut_checkEmpty {legal : OpState → Bool} {s : State} (h : legal s.op = true) (tag kind : Byte)
    (effect : Unit → State → State) : carryOut tag kind (checkEmpty legal [] s) effect s = effect () s := by
  rw [checkEmpty_nil h, carryOut_ok]

/-! ### Resets, INIT and the ANNOUNCE (R152, R153) -/

/-- Settles O9: each row's new state written out, the arbiter taking the ANNOUNCE where INIT ends. -/
theorem resetHoldsThenInitAnnounces : Obligations.ResetHoldsThenInitAnnounces := by
  refine ⟨fun s c cause up hrow => ?_, fun s rate1 rate0 => ?_, fun s hop hheld hfree => ?_, fun s bytes hframe => ?_⟩
  · simp only [List.mem_cons, List.not_mem_nil, or_false, Prod.mk.injEq] at hrow
    obtain ⟨rfl, rfl, rfl⟩ | ⟨rfl, rfl, rfl⟩ | ⟨rfl, rfl, rfl⟩ := hrow <;> rfl
  · by_cases hreleased : s.heldInReset = true ∧ s.supplyUp = true
    · rw [if_pos hreleased, ← hreleased.2]
      exact if_pos hreleased
    · rw [if_neg hreleased]
      exact if_neg hreleased
  · refine (if_pos ⟨hop, hheld⟩).trans (congrArg Host.Outcome.next ?_)
    exact arbitrate_announce hfree rfl
  · simp only [exec, execTransmitEnd, hframe]
    rfl

/-! ### START (R154) -/

theorem startFields_eq (s : State) :
    startFields s = [byte s.interval, (s.lane 0).state.code, (s.lane 1).state.code, (s.lane 2).state.code,
      (s.lane 3).state.code] := by
  have hfin : List.finRange 4 = [0, 1, 2, 3] := by decide
  rw [startFields, State.lanes_toList, hfin]
  rfl

/-- Settles O10. -/
theorem startMakesFirstCycle : Obligations.StartMakesFirstCycle := by
  intro s tag hadm hop
  refine (hostCommand_admitted hadm).trans (next_arbitrate_congr ?_)
  have hlegal : OpState.legalInStandby (admitted tag s).op = true := by simp [OpState.legalInStandby, hop]
  rw [runStart, carryOut_checkEmpty hlegal, start, answer_eq_replied, startFields_eq]
  rfl

/-! ### STOP and the end of DRAINING (R155, R156) -/

theorem finishDrain_of_not_over {s : State} (h : s.op ≠ .draining ∨ ¬DrainOver s) (others : List Reply) :
    finishDrain others s = { s with ready := s.ready ++ others } := by
  refine finishDrain_going (Bool.eq_false_iff.2 fun hdone => ?_)
  obtain ⟨hop, hover⟩ := (drainDone_iff s).1 hdone
  exact h.elim (fun h => h hop) fun h => h hover

theorem finishDrain_of_over {s : State} {tag : Byte} (htag : s.stopTag = some tag) (hop : s.op = .draining)
    (hover : DrainOver s) (others : List Reply) :
    finishDrain others s =
      { s with op := .standby, stopTag := none
               ready := s.ready ++ inAdmissionOrder s.inFlight others [⟨.command, 0x86, tag, stopBody s⟩] } := by
  rw [finishDrain, if_pos ((drainDone_iff s).2 ⟨hop, hover⟩), stopReply, htag]
  rfl

/-- The command of `r` was admitted before that of `late` (R146). -/
def admittedBefore (inFlight : List Byte) (late r : Reply) : Bool :=
  decide (inFlight.idxOf r.tag < inFlight.idxOf late.tag)

/-- A late reply joins the others before the first of them that was admitted after it (R146). -/
theorem inAdmissionOrder_single (inFlight : List Byte) (others : List Reply) (late : Reply) :
    ∃ before after, others = before ++ after ∧ inAdmissionOrder inFlight others [late] = before ++ [late] ++ after ∧
      (∀ r ∈ before, inFlight.idxOf r.tag < inFlight.idxOf late.tag) ∧
      ∀ r ∈ after.head?, inFlight.idxOf late.tag ≤ inFlight.idxOf r.tag := by
  refine ⟨others.takeWhile (admittedBefore inFlight late), others.dropWhile (admittedBefore inFlight late),
    List.takeWhile_append_dropWhile.symm, rfl, fun r hr => ?_, fun r hr => ?_⟩
  · have hbefore := List.mem_takeWhile_imp hr
    exact of_decide_eq_true hbefore
  · have hnot := List.head?_dropWhile_not (admittedBefore inFlight late) others
    rw [Option.mem_def.1 hr] at hnot
    exact Nat.not_lt.1 (of_decide_eq_false hnot)

/-- The part at STOP as the statement writes it (R155). -/
theorem stoppedPart_eq (tag : Byte) (s : State) :
    stoppedPart tag s =
      { s with
          op := .draining
          stopTag := some tag
          drainCancelled := 0
          evaluationOwed := false
          targets := Table.ofFn fun t =>
            if ∃ i, t ∈ (s.lane i).probeTier then
              { s.target t with countdown := countdownOf (s.target t).probeExponent }
            else s.target t
          lanes := s.lanes.map fun l =>
            { l with workList := [], probeTier := [], alertTier := [], lookOwed := false
                     jobs := l.jobs.map fun j => { j with cancelling := true } }
          lines := s.lines.map fun l =>
            match l.state with
            | .pending => { l with state := .armed, followUp := false, extraEdges := 0 }
            | .holdoff => { l with state := .armed, followUp := false }
            | .running => { l with followUp := false }
            | .off | .armed => l } := by
  have htarget : stoppedTarget s = fun t =>
      if ∃ i, t ∈ (s.lane i).probeTier then { s.target t with countdown := countdownOf (s.target t).probeExponent }
      else s.target t := funext fun t => if_congr (probePending_iff s t) rfl rfl
  rw [stoppedPart, htarget]
  rfl

/-- An admitted STOP in RUNNING acts on the lanes and lines and then looks whether DRAINING is over (R155, R156). -/
theorem exec_stop {s : State} {tag : Byte} (hadm : Admits s tag) (hop : s.op = .running) :
    exec (.stop tag []) s = .next (arbitrate (finishDrain [] (stoppedPart tag (admitted tag s)))) := by
  refine (hostCommand_admitted hadm).trans (next_arbitrate_congr ?_)
  have hlegal : OpState.legalInRunning (admitted tag s).op = true := by simp [OpState.legalInRunning, hop]
  exact carryOut_checkEmpty hlegal ..

/-- Settles O11: what STOP makes of the part, and the two ways of `finishDrain`. -/
theorem stopDrainsToStandby : Obligations.StopDrainsToStandby := by
  refine ⟨fun s tag hadm hop u hu => ?_, fun s others => ⟨fun hgoing => finishDrain_of_not_over hgoing others,
    fun tag htag hop hover => ?_⟩⟩
  · have hstopped : stoppedPart tag (admitted tag s) = u := (stoppedPart_eq tag (admitted tag s)).trans hu.symm
    rw [exec_stop hadm hop, hstopped]
    refine ⟨fun hgoing => next_arbitrate_congr ?_, fun hover => next_arbitrate_congr ?_⟩
    · rw [finishDrain_of_not_over (.inr hgoing), List.append_nil]
    · rw [finishDrain_of_over (by rw [hu]) (by rw [hu]) hover]
      rw [hu]
      rfl
  · obtain ⟨before, after, hsplit, horder, hbefore, hafter⟩ :=
      inAdmissionOrder_single s.inFlight others ⟨.command, 0x86, tag, stopBody s⟩
    refine ⟨before, after, hsplit, ?_, hbefore, hafter⟩
    rw [finishDrain_of_over htag hop hover, horder]
    simp only [List.append_assoc]

/-! ### RESET (R157) -/

/-- Settles O12: the reply that is ready, and the part in reset when its transmission ends. -/
theorem resetCommandResetsThePart : Obligations.ResetCommandResetsThePart := by
  refine ⟨fun s tag hadm hop => ?_, fun s bytes hframe => ?_⟩
  · refine (hostCommand_admitted hadm).trans (next_arbitrate_congr ?_)
    exact carryOut_checkEmpty (OpState.legalAlways_of_ne_init (op := (admitted tag s).op) hop) ..
  · have hreset := inReset_frameSent { s with transmitter := none }
    have hexec : exec .transmitEnd s = .next (frameSent (.reply .resetCommand) { s with transmitter := none }) := by
      simp only [exec, execTransmitEnd, hframe, finish, hreset.settled]
    rw [hexec, frameSent, commandReset, withChoice, afterChoice_frame]
    exact ⟨_, _, _, rfl⟩

/-! ### Right after a reset (R152) -/

theorem inReset_reset : InReset State.reset := rfl

theorem scheduleInv_reset : ScheduleInv State.reset := by
  refine ⟨fun p hp => ?_, fun i => ?_⟩
  · have hfree : State.reset.poll p = Poll.free 0 := Table.get_replicate ..
    exact absurd (congrArg Poll.state hfree) hp
  · rw [inReset_reset.lane]
    exact ⟨List.nodup_nil, fun p hp => absurd hp List.not_mem_nil⟩

theorem bindingInv_reset : BindingInv State.reset := by
  intro t _ _ ht
  have hfree : State.reset.target t = Target.free := Table.get_replicate ..
  exact absurd (congrArg Target.state hfree) ht

theorem capacityInv_reset : CapacityInv State.reset := by
  refine ⟨by decide, by decide, fun i => ?_⟩
  rw [inReset_reset.lane]
  decide

/-- Settles O52: each invariant from what a reset makes of the blocks it speaks of. -/
theorem resetMeetsInvariants : Obligations.ResetMeetsInvariants :=
  ⟨spaceInv_iff.2 (accounts_of_reset rfl rfl rfl), tagInv_iff.2 (tagsOwed_of_reset rfl rfl rfl rfl rfl),
    alertInv_iff.2 (linesInv_of_reset rfl rfl rfl), healthInv_iff.2 (targetsHealthy_of_reset rfl rfl),
    jobInv_of_reset rfl rfl, linkInv_iff.2 (linksHold_of_reset rfl rfl), inReset_reset.quietInv, scheduleInv_reset,
    bindingInv_reset, ⟨Nat.zero_le _, List.nodup_nil, fun _ h => absurd h List.not_mem_nil, Nat.zero_le _⟩,
    capacityInv_reset, ⟨⟨rfl, rfl⟩, Nat.zero_le _⟩, inReset_reset.settled⟩

end Sys2Proof.Machine

/-! PROOF. The queue: a step is the command at its front, carried out on the state with the queue's rest. -/

namespace Sys2Proof.Machine

theorem step_of_pending_eq_cons {c : Instr} {rest : List Instr} {s : State} (hfront : s.pending = c :: rest) :
    step s = exec c { s with pending := rest } := by
  rw [step, hfront]

/-- Settles O1: the queue written out has `c` at its front, and setting it twice leaves its rest. -/
theorem stepRunsFrontCommand : Obligations.StepRunsFrontCommand :=
  fun _ _ _ => step_of_pending_eq_cons rfl

end Sys2Proof.Machine
